-- ==== Sys2Proof/Word.lean ====
section
/-! DEFINITION. The word types of the part: 16-bit words, 8-bit bytes of the safety link, 18-bit word
addresses (00_scope.md section 7), and the absent value. -/

namespace Sys2Proof

/-- A word of image memory: every access is one whole word. -/
abbrev Word := BitVec 16

/-- A byte of the safety link. -/
abbrev Byte := BitVec 8

/-- A word address, 0x00000 to 0x3FFFF. -/
abbrev Addr := BitVec 18

/-- The absent value: "not included" in a record field, "not known" in a status slot. -/
def absent : Word := 0xFFFF

/-- A number as a word, its low 16 bits. -/
def toWord (n : Nat) : Word := BitVec.ofNat 16 n

/-- A number as an address, its low 18 bits. -/
def toAddr (n : Nat) : Addr := BitVec.ofNat 18 n

end Sys2Proof
end

