-- ==== Sys2Proof/Syntax.lean ====
section
/-! DEFINITION. The commands of the part: one constructor per row of spec/opcode_table.json, with the operands
the event carries. -/

namespace Sys2Proof

/-- The two resets, alike but for the cause recorded (00_scope.md section 7). -/
inductive ResetCause
  | por
  | rstn
  deriving DecidableEq, Repr

/-- The six receive errors of the safety link (R165). -/
inductive LinkError
  | rate
  | syncSpread
  | stopBit
  | unknownCommand
  | check
  | idleTimeout
  deriving DecidableEq, Repr

/-- What a climate arrival carries (R147): for a heater zone the NTC code and the current sample of its sense
channel, for a fan zone the tachometer period in microseconds, or absent. -/
inductive Arrival
  | heater (code : Word) (current : Word)
  | fan (period : Option Nat)
  deriving DecidableEq, Repr

/-- The commands. Host accesses carry the address on UA and, for a write, the value on UD; a row that stands
for one value of its slot (JOG_STOP, CRASH_CLEAR, ...) carries the address alone. `dt` is the time in
microseconds that has passed on the clock when a wire event arrives (log entry 1). -/
inductive Instr
  | reset (cause : ResetCause)
  | resetEnd
  | upstreamRead (addr : Addr)
  | upstreamWrite (addr : Addr) (value : Word)
  | upstreamAccessComplete
  | holdTimerExpiry
  | catchUpReadComplete
  | sweepReadComplete
  | dportGrant
  | target (addr : Addr) (value : Word)
  | jogStop (addr : Addr)
  | jogUpForward (addr : Addr)
  | jogDownBack (addr : Addr)
  | home (addr : Addr)
  | duty (addr : Addr) (value : Word)
  | limitLo (addr : Addr) (value : Word)
  | limitHi (addr : Addr) (value : Word)
  | chamberTarget (addr : Addr) (value : Word)
  | recall (addr : Addr) (value : Word)
  | recallCancel (addr : Addr)
  | store (addr : Addr) (value : Word)
  | massageStart (addr : Addr) (pattern : Byte) (intensity : Byte)
  | massageStop (addr : Addr) (intensity : Byte)
  | panelEnable (addr : Addr)
  | panelDisable (addr : Addr)
  | crashClear (addr : Addr)
  | level (addr : Addr) (value : Word)
  | readIndex (addr : Addr) (value : Word)
  | configCheckWordWrite (value : Word)
  | configWordWrite (addr : Addr) (value : Word)
  | profileCheckWordWrite (addr : Addr) (value : Word)
  | validationReadComplete
  | startUpReadComplete
  | neutralWriteComplete
  | markerWriteComplete
  | parkingWriteComplete
  | hallEdge (axis : Fin 8) (dt : Nat)
  | motorCurrentSample (axis : Fin 8) (sample : Word)
  | startBlankingEnd (axis : Fin 8)
  | hallPeriodTimeout (axis : Fin 8)
  | stallTimerExpiry (axis : Fin 8)
  | reversalDeadTimeEnd (axis : Fin 8)
  | coastWindowEnd (axis : Fin 8)
  | crashDeadTimeEnd (axis : Fin 8)
  | restoreTimeReached (axis : Fin 8)
  | thermalRiseTick (axis : Fin 8)
  | thermalFallTick (axis : Fin 8)
  | supplySample (sample : Word)
  | waitLimitExpiry (claimant : Fin 15)
  | profileCheckReadComplete
  | storeWriteComplete
  | recallReadComplete
  | slotNeutralWriteComplete
  | lineSample (closed : BitVec 6)
  | keyHoldTimerExpiry (key : Fin 30)
  | storeWindowExpiry
  | pressureSample (chamber : Fin 12) (sample : Word)
  | pumpCurrentSample (sample : Word)
  | patternFetchReadComplete
  | massagePhaseTimerExpiry
  | massageSessionExpiry
  | massageMirrorWriteComplete
  | climateArrival (zone : Fin 6) (data : Arrival)
  | stepDownExpiry (zone : Fin 6)
  | levelMirrorWriteComplete
  | linkReady
  | arm
  | pull (severity : Byte)
  | release
  | impact
  | query (bitTime : Nat)
  | linkReceiveError (kind : LinkError) (detail : Word)
  | idleTimeout
  | turnaroundEnd
  | replyCancel
  | replyAbandon
  | replyEnd
  | armHoldTimerExpiry
  | pullTimerExpiry
  | crashHoldTimerExpiry
  | journalInitWriteComplete
  | appendWriteComplete
  | headerRefreshWriteComplete
  | recountReadComplete
  | syncFieldStart (dt : Nat)
  | slinkEdge (dt : Nat) (rising : Bool)
  | fieldReceived (byte : Byte)
  deriving DecidableEq, Repr

end Sys2Proof
end

