-- ==== Sys2Proof/Machine/Bits.lean ====
section
/-! DEFINITION. Fields of words, and the CRC-8 of check words and link frames (R28, R187). -/

namespace Sys2Proof.Machine

/-- Bits 15:8 of a word. -/
def hi (w : Word) : Nat := w.toNat / 256

/-- Bits 7:0 of a word. -/
def lo (w : Word) : Nat := w.toNat % 256

/-- A word of a high and a low byte. -/
def bytes (h l : Nat) : Word := toWord ((h % 256) * 256 + l % 256)

/-- The field of `n` bits of `w` that begins at bit `b`. -/
def field (w : Word) (b n : Nat) : Nat := (w.toNat / 2 ^ b) % 2 ^ n

/-- 1 for true. -/
def bit (b : Bool) : Nat := if b then 1 else 0

/-- One shift of the CRC register (R187). -/
def crcShift (r : Nat) : Nat := if 128 ≤ r then (r * 2 % 256) ^^^ 0x2F else r * 2

/-- One input byte (R187). -/
def crcByte (r b : Nat) : Nat :=
  crcShift (crcShift (crcShift (crcShift (crcShift (crcShift (crcShift (crcShift (r ^^^ b))))))))

/-- The CRC-8 over a list of bytes (R187). -/
def crc8 (bs : List Nat) : Nat := bs.foldl crcByte 0xFF

/-- The CRC-8 over words, each high byte first (R28). -/
def crcWords (ws : List Word) : Nat := ws.foldl (fun r w => crcByte (crcByte r (hi w)) (lo w)) 0xFF

/-- The check word of a record (R28): the tag and the CRC over the words before it. -/
def checkWord (tag : Nat) (ws : List Word) : Word := bytes tag (crcWords ws)

/-- Tags of R28. -/
def tagConfig : Nat := 0xC3
def tagProfile : Nat := 0x9A
def tagShadow : Nat := 0x5E
def tagPattern : Nat := 0x7B
def tagJournal : Nat := 0x4D

end Sys2Proof.Machine
end

