-- ==== Sys2Proof/Config.lean ====
section
/-! DEFINITION. The configuration in force (02_configuration_block_and_start_up.md section 2.1), the fixed
places of the part, and the free values that the spec leaves open. -/

namespace Sys2Proof

/-- The two directions of an axis (section 3, the table of axes). -/
inductive Dir
  | upForward
  | downBack
  deriving DecidableEq, Repr

/-- The opposite direction. -/
def Dir.opp : Dir → Dir
  | .upForward => .downBack
  | .downBack => .upForward

/-- Pinch directions of an axis descriptor. -/
inductive PinchDirs
  | none
  | upForward
  | downBack
  | both
  deriving DecidableEq, Repr

/-- Role of a chamber (chapter 7). -/
inductive ChamberRole
  | posture
  | massage
  | shared
  deriving DecidableEq, Repr

/-- Crash role of a chamber. -/
inductive ChamberCrash
  | none
  | inflate
  | vent
  deriving DecidableEq, Repr

/-- Recall mode of the panel (R106). -/
inductive RecallMode
  | oneTouch
  | holdToRun
  deriving DecidableEq, Repr

/-- The six regions, in the order in which R31 examines them. -/
inductive Region
  | seat
  | axis
  | air
  | climate
  | profile
  | journal
  deriving DecidableEq, Repr

/-- A window: base and mask (R1). -/
structure Window where
  base : Addr
  mask : Addr
  deriving DecidableEq, Repr

/-- The windows of the six regions. -/
structure Windows where
  seat : Window
  axis : Window
  air : Window
  climate : Window
  profile : Window
  journal : Window
  deriving DecidableEq, Repr

/-- The window of a region. -/
def Windows.of (w : Windows) : Region → Window
  | .seat => w.seat
  | .axis => w.axis
  | .air => w.air
  | .climate => w.climate
  | .profile => w.profile
  | .journal => w.journal

/-- An axis descriptor. -/
structure AxisConf where
  fitted : Bool
  crashDir : Dir
  stroke : Nat
  thermalLimit : Nat
  crashTarget : Nat
  current : Nat
  pinchThreshold : Nat
  stallWindow : Nat
  rank : Nat
  backOff : Nat
  pinchDirs : PinchDirs
  crashPull : Bool
  deriving DecidableEq, Repr

/-- A chamber descriptor. -/
structure ChamberConf where
  fitted : Bool
  role : ChamberRole
  maxPressure : Nat
  crashRole : ChamberCrash
  leakTolerance : Nat
  crashPressure : Nat
  deriving DecidableEq, Repr

/-- A zone descriptor. `mask` has bit 0 NTC_OPEN to bit 4 FAN_STALL. -/
structure ZoneConf where
  fitted : Bool
  current : Nat
  target1 : Nat
  target2 : Nat
  target3 : Nat
  overTemp : Nat
  ntcGain : Nat
  confirm : Nat
  ntcOffset : Nat
  mask : BitVec 5
  pair : Option (Fin 6)
  stepDown : Nat
  deriving DecidableEq, Repr

/-- The configuration in force: every field of the block after R32. -/
structure Conf where
  holdLimit : Nat
  windows : Windows
  axes : Vector AxisConf 8
  chambers : Vector ChamberConf 12
  pumpCurrent : Nat
  zones : Vector ZoneConf 6
  totalCap : Nat
  motorCap : Nat
  reducedCap : Nat
  sagThreshold : Nat
  keyMap : Vector Word 30
  scanDwell : Nat
  debounce : Nat
  longPress : Nat
  recallMode : RecallMode
  massageSession : Nat
  armHold : Nat
  pullLimit : Nat
  crashHold : Nat
  notify : BitVec 7
  deriving DecidableEq, Repr

/-- An unfitted axis. -/
def AxisConf.unfitted : AxisConf :=
  { fitted := false, crashDir := .upForward, stroke := 0, thermalLimit := 0, crashTarget := 0,
    current := 0, pinchThreshold := 0, stallWindow := 0, rank := 0, backOff := 0,
    pinchDirs := .none, crashPull := false }

/-- An unfitted chamber. -/
def ChamberConf.unfitted : ChamberConf :=
  { fitted := false, role := .posture, maxPressure := 0, crashRole := .none, leakTolerance := 0,
    crashPressure := 0 }

/-- An unfitted zone. -/
def ZoneConf.unfitted : ZoneConf :=
  { fitted := false, current := 0, target1 := 0, target2 := 0, target3 := 0, overTemp := 0,
    ntcGain := 1, confirm := 0, ntcOffset := 0, mask := 0, pair := none, stepDown := 0 }

/-- What the blocks run under while no configuration is in force (R27): no unit fitted; the hold limit,
scan dwell and debounce count of section 1.3 and R110. -/
def Conf.none : Conf :=
  { holdLimit := 20,
    windows := ⟨⟨0, 0⟩, ⟨0, 0⟩, ⟨0, 0⟩, ⟨0, 0⟩, ⟨0, 0⟩, ⟨0, 0⟩⟩,
    axes := Vector.replicate 8 AxisConf.unfitted,
    chambers := Vector.replicate 12 ChamberConf.unfitted,
    pumpCurrent := 0,
    zones := Vector.replicate 6 ZoneConf.unfitted,
    totalCap := 0, motorCap := 0, reducedCap := 0, sagThreshold := 0,
    keyMap := Vector.replicate 30 0,
    scanDwell := 2, debounce := 3, longPress := 800, recallMode := .oneTouch,
    massageSession := 15, armHold := 30, pullLimit := 150, crashHold := 10, notify := 0 }

/-- What a word of image memory that nothing has written reads as. The spec gives no contents.
DESIGN CHOICE, unsafe (log entry 3). -/
def Config.unwritten : Word := 0xFFFF

/-- FREE VALUE (log entry 4): which of two things the part takes first, where a rule says that either
may be taken first within one event (R86, R90, R105, R106, R115, R171). Applied to `State.order`. -/
opaque Config.eitherFirst : Nat → Bool

/-- FREE VALUE (log entry 5): the TEMPERATURE slot of a fan zone when 1 000 000 divided by the period does not
fit a word (R158 states no result), as a function of the period. -/
opaque Config.tachRateBeyondWord : Nat → Word

end Sys2Proof
end

