-- ==== Sys2Proof/Machine/State.lean ====
section
/-! DEFINITION. The state of the part, as plain data: every register, record, queue, counter, mark and timer
the spec gives it, the queue of waiting commands, and the state after reset. Timers are kept as the time on the
clock `now` (microseconds) at which they run out; none means stopped. -/

namespace Sys2Proof.Machine

/-! ## Slots and accesses (chapter 1) -/

/-- The CONTROL slots (R5, section 11.3). -/
inductive CSlot
  | recall
  | store
  | massage
  | panelEnable
  | crashClear
  | axTarget (i : Fin 8)
  | axJog (i : Fin 8)
  | axDuty (i : Fin 8)
  | axLimitLo (i : Fin 8)
  | axLimitHi (i : Fin 8)
  | airTarget (c : Fin 12)
  | level (z : Fin 6)
  | readIndex
  deriving DecidableEq, Repr

/-- To whom a forwarded write is reported once it has taken effect (R3, R4, R8). -/
inductive Report
  | none
  | config
  | profile (n : Fin 4)
  deriving DecidableEq, Repr

/-- An upstream access. -/
inductive Access
  | read (addr : Addr)
  | write (addr : Addr) (value : Word) (report : Report)
  deriving DecidableEq, Repr

/-- The U-port: one access at a time. `kept` is an access held by LOADING (R15); `held` the hold state (R11);
`waiting` a forwarded access before its grant; `onPort` after it, with the word (R25). -/
inductive UPort
  | idle
  | kept (a : Access)
  | held (addr : Addr) (value : Word) (owner : CSlot) (deadline : Nat)
  | waiting (a : Access)
  | onPort (a : Access) (word : Word)
  deriving DecidableEq, Repr

/-- What an inserted cycle is for (R23). It names the operation of the requesting block. -/
inductive Purpose
  | validation
  | startUp
  | neutral (c : CSlot)
  | marker (i : Fin 8)
  | parking (i : Fin 8)
  | axisNeutral (i : Fin 8) (jog : Bool)
  | profileCheck
  | storeWrite
  | recallRead
  | seatNeutral (store : Bool)
  | chamberNeutral (c : Fin 12)
  | patternFetch
  | massageMirror
  | levelMirror (z : Fin 6)
  | crashRecord
  | crashClearNeutral
  | catchUp
  | sweep
  | writeBack
  | journalInit
  | append
  | headerRefresh
  | recount
  deriving DecidableEq, Repr

/-- An inserted cycle: an entry of the insert queue (R23). `discard` marks a read whose value will be
discarded at its completion (R17, R18, R19, R98, R135, R186). -/
structure Cycle where
  purpose : Purpose
  write : Bool
  addr : Addr
  value : Word
  urgent : Bool
  discard : Bool
  deriving DecidableEq, Repr

/-- The D-port: free, or carrying the upstream access, or an inserted cycle with its word. -/
inductive DPort
  | free
  | upstream
  | inserted (c : Cycle) (word : Word)
  deriving DecidableEq, Repr

/-- The window table in force: an entry or none per region (R1). -/
structure WindowTable where
  seat : Option Window
  axis : Option Window
  air : Option Window
  climate : Option Window
  profile : Option Window
  journal : Option Window
  deriving DecidableEq, Repr

/-- The table with no entries. -/
def WindowTable.empty : WindowTable := ⟨none, none, none, none, none, none⟩

/-- An address of the catch-up list with its mark read pending (R16). -/
structure Listed where
  addr : Addr
  reading : Bool
  deriving DecidableEq, Repr

/-- The path decoder's state but for the U-port. -/
structure Path where
  table : WindowTable
  holdLimit : Nat
  list : List Listed
  resync : Bool
  sweep : Option Addr
  rerun : Bool
  deriving DecidableEq, Repr

/-- The insert queue, the accesses waiting for a place, the later accesses of operations that have one
waiting, the D-port and the pass-over count (R23, R24). -/
structure Inserts where
  queue : List Cycle
  waiting : List Cycle
  behind : List Cycle
  port : DPort
  passOver : Nat
  deriving DecidableEq, Repr

/-! ## Configuration unit (chapter 2) -/

inductive ConfState
  | loading
  | active
  | validating
  | fallback
  deriving DecidableEq, Repr

/-- Origin of a validation from ACTIVE or FALLBACK. -/
inductive ConfOrigin
  | active
  | fallback
  deriving DecidableEq, Repr

inductive Spoil
  | clear
  | changed
  | crash
  deriving DecidableEq, Repr

/-- Reasons of a rejection (R30). -/
inductive Reason
  | none
  | badCheck
  | badFormat
  | badWindow
  | badAxis
  | badCap
  | badCrashLoad
  | badKeymap
  | badPairing
  | changedDuringCheck
  | crashDuringCheck
  deriving DecidableEq, Repr

/-- The steps of start-up (R34, R35); `read` is the first validation, before them. -/
inductive StartStep
  | none
  | shadows (i : Fin 8)
  | profiles (n : Fin 4)
  | header
  | journalInit
  | crashRecord
  | neutral
  deriving DecidableEq, Repr

structure ConfigUnit where
  state : ConfState
  origin : Option ConfOrigin
  inForce : Option Conf
  candidate : List Word
  spoil : Spoil
  restart : Bool
  lastReason : Reason
  lastSubject : Option Nat
  cause : ResetCause
  step : StartStep
  words : List Word
  crashRecord : Word
  neutralLeft : List CSlot
  neutralNow : Option CSlot
  deriving DecidableEq, Repr

/-! ## Axis controller (chapter 3) -/

/-- In the order of R45, which gives the codes. -/
inductive AxisState
  | idle
  | starting
  | running
  | stopping
  | parking
  | reversing
  | blocked
  deriving DecidableEq, Repr

inductive Mover
  | crash
  | restore
  | panel
  | recall
  | image
  deriving DecidableEq, Repr

inductive Goal
  | target (p : Nat)
  | jog (d : Dir)
  | home
  | crashTo (p : Nat)
  | crashTime (d : Dir)
  | backOff (n : Nat)
  | restoreTo (p : Nat)
  | restoreTime (t : Nat) (d : Dir)
  deriving DecidableEq, Repr

inductive StopCause
  | reached
  | stopRequest
  | limit
  | stall
  | endStop
  | pinch
  | hallFault
  | preempted
  | armed
  | config
  | noPower
  | supplyLow
  | thermal
  | crashTime
  | locked
  deriving DecidableEq, Repr

inductive Grant
  | none
  | claimed
  | held
  deriving DecidableEq, Repr

/-- A start request: mover and goal. -/
structure Request where
  mover : Mover
  goal : Goal
  deriving DecidableEq, Repr

/-- The axis record of R45 and, from `drive` on, the state the rules of chapter 3 imply. -/
structure Axis where
  state : AxisState
  referenced : Bool
  count : Nat
  goal : Option Goal
  mover : Option Mover
  pending : Option Request
  limitLo : Nat
  limitHi : Nat
  duty : Nat
  grant : Grant
  thermal : Nat
  lastCause : Option StopCause
  lastDir : Dir
  hallBase : Option Nat
  currentBase : Option Nat
  idleEdge : Bool
  /-- direction while the drive is energised (EN active), none while it is off -/
  drive : Option Dir
  /-- PWM duty of the move -/
  driveDuty : Nat
  /-- energised time of the move before the present stretch of drive, in microseconds -/
  energised : Nat
  /-- when the present stretch of drive began -/
  driveSince : Nat
  /-- the goal whose end report is owed -/
  owed : Option Goal
  markerDone : Bool
  current : Option Nat
  lastEdge : Option Nat
  lastPeriod : Option Nat
  stallAt : Option Nat
  blankAt : Option Nat
  deadAt : Option Nat
  coastAt : Option Nat
  backLeft : Nat
  parkLeft : Nat
  /-- for each crash marker owed (R70), how many shadow writes are still to complete before it is offered -/
  markerOwed : List Nat
  overheated : Bool
  crashInBlocked : Bool
  parkOwed : List Mover
  deriving DecidableEq, Repr

/-! ## Load budget (chapter 4) -/

inductive Priority
  | crash
  | motion
  | pump
  | fan
  | heater
  deriving DecidableEq, Repr

inductive WaitClass
  | unlimited
  | limited2s
  | limited5s
  deriving DecidableEq, Repr

inductive GrantState
  | none
  | waiting
  | granted
  | shed
  deriving DecidableEq, Repr

structure Claim where
  state : GrantState
  units : Nat
  priority : Option Priority
  wait : WaitClass
  since : Option Nat
  seq : Nat
  deriving DecidableEq, Repr

structure Budget where
  table : Vector Claim 15
  queue : List (Fin 15)
  effective : Nat
  sagging : Bool
  reservation : Nat
  crashHold : Bool
  sagCount : Nat
  recoveryCount : Nat
  nextSeq : Nat
  deriving DecidableEq, Repr

/-- The four outcomes the budget tells an owner (R75). -/
inductive Told
  | granted
  | shed
  | revoked
  | refused
  deriving DecidableEq, Repr

/-! ## Recall and store engine (chapter 5) -/

inductive ProfileState
  | empty
  | valid
  | invalid
  | writing
  deriving DecidableEq, Repr

inductive CheckMark
  | none
  | pending
  | running
  deriving DecidableEq, Repr

structure ProfileEntry where
  state : ProfileState
  count : Nat
  mark : CheckMark
  deriving DecidableEq, Repr

/-- The check in progress: its profile, the words read so far, and whether its result is discarded (R94). -/
structure CheckRun where
  profile : Fin 4
  words : List Word
  void : Bool
  deriving DecidableEq, Repr

/-- The store in progress: `writes` are the values of its 33 writes in order (R97), `done` how many completed. -/
structure StoreRun where
  profile : Fin 4
  fromSlot : Bool
  writes : List Word
  newCount : Nat
  done : Nat
  deriving DecidableEq, Repr

inductive RecallState
  | idle
  | reading
  | running (rank : Fin 4)
  | aborting
  | done
  deriving DecidableEq, Repr

/-- Origin of a recall (R99): PANEL with the key, or SLOT; `replaced` is SLOT for a recall in progress that a later request
of the slot has replaced (R107). -/
inductive Origin
  | panel (key : Fin 30)
  | slot
  | replaced
  deriving DecidableEq, Repr

inductive Phase
  | planned
  | requested
  | ended
  | finished
  deriving DecidableEq, Repr

inductive LegOutcome
  | done
  | skipped
  | failed
  | cancelled
  deriving DecidableEq, Repr

structure Leg where
  axis : Fin 8
  target : Nat
  rank : Fin 4
  phase : Phase
  outcome : Option LegOutcome
  deriving DecidableEq, Repr

inductive RecallResult
  | none
  | complete
  | aborted
  | refused
  deriving DecidableEq, Repr

/-- Causes of an aborted or refused recall, in the order of their codes from 1 (section 11.3). -/
inductive RecallCause
  | panelKey
  | newRecall
  | cancelled
  | legFault
  | armed
  | pull
  | locked
  | config
  | keyReleased
  | notValid
  | check
  | changed
  deriving DecidableEq, Repr

/-- The recall record (R99); the read position is the length of `copy`. `reading` says that a read of READING
is in flight. -/
structure Recall where
  state : RecallState
  profile : Option (Fin 4)
  origin : Option Origin
  copy : List Word
  reading : Bool
  legs : List Leg
  result : RecallResult
  cause : Option RecallCause
  queued : Option (Fin 4 × Origin)
  deriving DecidableEq, Repr

/-- A slot's request mark (R107): the profile number, and whether that request is over, its neutral write
offered. -/
structure RequestMark where
  number : Nat
  ended : Bool
  deriving DecidableEq, Repr

structure Engine where
  profiles : Vector ProfileEntry 4
  check : Option CheckRun
  store : Option StoreRun
  plan : Recall
  recallMark : Option RequestMark
  storeMark : Option RequestMark
  deriving DecidableEq, Repr

/-! ## Switch panel (chapter 6) -/

structure Key where
  down : Bool
  run : Nat
  deriving DecidableEq, Repr

/-- A member of the key-down set. -/
structure Member where
  key : Fin 30
  pressed : Bool
  holdAt : Option Nat
  held : Bool
  deriving DecidableEq, Repr

inductive PanelState
  | normal
  | ambiguous
  | disabled
  deriving DecidableEq, Repr

structure Panel where
  line : Fin 5
  lineSince : Nat
  dwell : Nat
  keys : Vector Key 30
  members : List Member
  ambiguous : Bool
  enabled : Bool
  shown : PanelState
  conflict : Vector Bool 8
  storeWindow : Option Nat
  deriving DecidableEq, Repr

/-! ## Air chambers and massage (chapter 7) -/

inductive ChamberState
  | sealed
  | fillWait
  | filling
  | venting
  | fault
  deriving DecidableEq, Repr

inductive ChamberOwner
  | none
  | posture
  | massage
  | crash
  deriving DecidableEq, Repr

inductive ChamberFault
  | none
  | leak
  | noRise
  deriving DecidableEq, Repr

/-- The chamber record of R123; `faultVent` is the open vent valve of a chamber in FAULT (R125, R144), `lowered` says that its
maximum pressure has been lowered since its latest sample (R145). -/
structure Chamber where
  state : ChamberState
  owner : ChamberOwner
  posture : Option Nat
  target : Option Nat
  fillOnly : Bool
  borrowed : Bool
  returning : Bool
  settlePending : Bool
  protective : Bool
  refills : List Nat
  fillTime : Nat
  fault : ChamberFault
  slotRequest : Bool
  sample : Option Nat
  faultVent : Bool
  lowered : Bool
  deriving DecidableEq, Repr

inductive MassageState
  | off
  | fetching
  | running
  | ending
  deriving DecidableEq, Repr

inductive MassagePhase
  | rise
  | hold
  | fall
  deriving DecidableEq, Repr

/-- The massage record of R136, the pattern buffer (header word, then the words of the steps) and the chambers
not yet done for the rise (R139). `mirrorNow` is the mirror write in flight, `mirrorKnown` the value the slot
holds in memory as far as the controller has put it there (R141). -/
structure Massage where
  state : MassageState
  pattern : Option (Fin 8)
  intensity : Nat
  step : Nat
  phase : Option MassagePhase
  phaseAt : Option Nat
  passes : Nat
  sessionAt : Option Nat
  pendingStart : Option (Fin 8 × Nat)
  lastPattern : Fin 8
  lastIntensity : Nat
  buffer : List Word
  riseLeft : List (Fin 12)
  mirrorNow : Option Word
  mirrorKnown : Word
  deriving DecidableEq, Repr

structure Air where
  chambers : Vector Chamber 12
  claim : Option Priority
  granted : Bool
  overload : Nat
  massage : Massage
  deriving DecidableEq, Repr

/-! ## Heating and ventilation (chapter 8) -/

inductive ZoneState
  | off
  | demand
  | on
  | shed
  | faulted
  deriving DecidableEq, Repr

/-- In the bit order of the diagnostic mask. -/
inductive ZoneFault
  | ntcOpen
  | ntcShort
  | overTemp
  | elementOpen
  | fanStall
  deriving DecidableEq, Repr

/-- The zone record of R147. The acknowledgement carries its level and whether the host wrote it; `stepSince`
is when the level became 3. `duties` are a fan's duties at levels 1 to 3 under the configuration before, from the
application of a new one until the zone's next arrival (R42, R160). -/
structure Zone where
  level : Nat
  state : ZoneState
  temperature : Option Int
  period : Option Nat
  fault : Option ZoneFault
  confirm : Vector Nat 5
  present : BitVec 5
  ack : Option (Nat × Bool)
  stepSince : Option Nat
  onThrough : Bool
  partnerOn : Bool
  spinUp : Nat
  mirrorNow : Option Nat
  duties : Option (Nat × Nat × Nat)
  deriving DecidableEq, Repr

/-! ## Crash controller and safety link (chapter 9) -/

/-- In the order of their codes (section 11.5). -/
inductive CrashState
  | notReady
  | idle
  | armed
  | pulling
  | holding
  | restoring
  | locked
  deriving DecidableEq, Repr

/-- A snapshot entry of an axis (R170): a count, or an accumulator in ms with a direction. -/
inductive SnapAxis
  | position (count : Nat)
  | time (ms : Nat) (dir : Dir)
  deriving DecidableEq, Repr

inductive LegKind
  | none
  | pull
  | restore
  deriving DecidableEq, Repr

inductive CrashOutcome
  | done
  | failed
  | stopped
  deriving DecidableEq, Repr

/-- A crash or restore leg; `droveOn` says that the axis took the CRASH request while RUNNING in the crash
direction (R70, R172). -/
structure CrashLeg where
  axis : Fin 8
  position : Bool
  phase : Phase
  outcome : Option CrashOutcome
  droveOn : Bool
  deriving DecidableEq, Repr

structure Crash where
  state : CrashState
  armAt : Option Nat
  pullAt : Option Nat
  holdAt : Option Nat
  pullTime : Nat
  snapAxes : Vector (Option SnapAxis) 8
  snapChambers : Vector (Option (Option Nat)) 12
  kind : LegKind
  legs : List CrashLeg
  drops : Nat
  deriving DecidableEq, Repr

inductive RxState
  | waitSync
  | sync
  | fields
  | turnaround
  | reply
  deriving DecidableEq, Repr

/-- The link receiver (R162). `edges` are the times of the SYNC field's edges, oldest first; `received` the
count of fields received after the SYNC field; `expected` the DATA fields still expected; `lineHigh` and
`lineSince` the level of SLINK and the time of its last change; `turnAt` the end of TURNAROUND; `reply` the
five bytes being sent and `replyAt` their end; `fieldAt` the falling edge that started the field in progress;
`levels` the changes of level since that edge, or since edge 9 of the SYNC field, oldest first. -/
structure Link where
  state : RxState
  ready : Bool
  bitTime : Nat
  edges : List Nat
  command : Option Byte
  data : Option Byte
  received : Nat
  expected : Nat
  fieldAt : Option Nat
  reported : List LinkError
  lineHigh : Bool
  lineSince : Nat
  turnAt : Option Nat
  reply : Option (List Byte)
  replyAt : Option Nat
  levels : List (Nat × Bool)
  deriving DecidableEq, Repr

/-! ## Journal (chapter 10) -/

inductive EntryClass
  | crash
  | fault
  | refusal
  | motion
  | panel
  | config
  | link
  deriving DecidableEq, Repr

/-- The codes of section 10.1, by class. -/
inductive EntryCode
  | pull
  | holdExpired
  | restored
  | locked
  | cleared
  | hallFault
  | hallRange
  | hallUnexpected
  | shadowStale
  | supplySag
  | supplyRestored
  | storeAbandoned
  | fillAbandoned
  | leak
  | noRise
  | zone (f : ZoneFault)
  | refusedValue
  | writeStatus
  | writeOwned
  | unfitted
  | lateRefused
  | storeGuard
  | storeBusy
  | profileInvalid
  | patternInvalid
  | moveEnd
  | recallAborted
  | press
  | release
  | hold
  | ambiguous
  | reset
  | rejected
  | applied
  | link (e : LinkError)
  deriving DecidableEq, Repr

/-- An entry: its time stamp, code, address bits 17:16 (for REFUSAL entries of the path decoder), subject and
detail. -/
structure Entry where
  time : Word
  code : EntryCode
  high : BitVec 2
  subject : Word
  detail : Word
  deriving DecidableEq, Repr

inductive RingState
  | noRing
  | opening
  | ready
  deriving DecidableEq, Repr

/-- The writer's one inserted access in flight (R182, R183, R185, R34). -/
inductive JournalWork
  | init (k : Fin 4)
  | entryWord (k : Fin 4)
  | index
  | overrun (refresh : Bool)
  | check (refresh : Bool)
  | recount (place : Fin 64)
  deriving DecidableEq, Repr

/-- The journal writer (R180). `appending` says that the oldest staged entry is being appended; `memOverrun`
is the OVERRUN word memory holds; `stale` marks an access in flight that a moved window has cut off (R186). -/
structure Journal where
  ring : RingState
  write : Fin 64
  read : Fin 64
  overrun : Bool
  overrunMark : Bool
  unread : Nat
  classes : Vector (Option EntryClass) 64
  counts : Vector Nat 7
  recount : List (Fin 64)
  staging : List Entry
  work : Option JournalWork
  appending : Bool
  refresh : Bool
  memOverrun : Bool
  stale : Bool
  deriving DecidableEq, Repr

/-! ## Measurement unit -/

/-- The latest sample of each analog channel that no record above holds. -/
structure Measured where
  motor : Vector (Option Word) 8
  ntc : Vector (Option Word) 4
  heater : Vector (Option Word) 2
  pump : Option Word
  supply : Option Word
  deriving DecidableEq, Repr

/-! ## The state -/

/-- The state of the part, the image memory behind the D-port, and the queue of waiting commands. -/
structure State where
  pending : List Instr
  now : Nat
  inReset : Bool
  mem : List (Nat × Word)
  uport : UPort
  lastRead : Option Word
  path : Path
  ins : Inserts
  cfg : ConfigUnit
  axes : Vector Axis 8
  budget : Budget
  engine : Engine
  panel : Panel
  air : Air
  zones : Vector Zone 6
  crash : Crash
  link : Link
  journal : Journal
  meas : Measured
  order : Nat
  deriving DecidableEq, Repr

/-! ## Reset values -/

/-- R45, last column. The soft limits before a configuration is in force are the model's (log entry 19). -/
def Axis.reset : Axis :=
  { state := .idle, referenced := false, count := 0, goal := none, mover := none, pending := none,
    limitLo := 40, limitHi := 0, duty := 60, grant := .none, thermal := 0, lastCause := none,
    lastDir := .upForward, hallBase := none, currentBase := none, idleEdge := false, drive := none,
    driveDuty := 0, energised := 0, driveSince := 0, owed := none, markerDone := false,
    current := none, lastEdge := none, lastPeriod := none, stallAt := none, blankAt := none,
    deadAt := none, coastAt := none, backLeft := 0, parkLeft := 0, markerOwed := [],
    overheated := false, crashInBlocked := false, parkOwed := [] }

/-- R76, last column. -/
def Claim.reset : Claim :=
  { state := .none, units := 0, priority := none, wait := .unlimited, since := none, seq := 0 }

/-- R76. -/
def Budget.reset : Budget :=
  { table := Vector.replicate 15 Claim.reset, queue := [], effective := 0, sagging := false,
    reservation := 0, crashHold := false, sagCount := 0, recoveryCount := 0, nextSeq := 1 }

/-- R99, last column. -/
def Recall.reset : Recall :=
  { state := .idle, profile := none, origin := none, copy := [], reading := false, legs := [],
    result := .none, cause := none, queued := none }

/-- R92, R99, R107. -/
def Engine.reset : Engine :=
  { profiles := Vector.replicate 4 ⟨.empty, 0, .none⟩, check := none, store := none,
    plan := Recall.reset, recallMark := none, storeMark := none }

/-- R110, R111, R112, R114, R117, R118, R121. -/
def Panel.reset : Panel :=
  { line := 0, lineSince := 0, dwell := 2, keys := Vector.replicate 30 ⟨false, 0⟩, members := [],
    ambiguous := false, enabled := true, shown := .disabled, conflict := Vector.replicate 8 false,
    storeWindow := none }

/-- R123, last column. -/
def Chamber.reset : Chamber :=
  { state := .sealed, owner := .none, posture := none, target := none, fillOnly := false,
    borrowed := false, returning := false, settlePending := false, protective := false,
    refills := [], fillTime := 0, fault := .none, slotRequest := false, sample := none,
    faultVent := false, lowered := false }

/-- R136, last column: last pattern 1 and last intensity 3. Patterns are numbered from 0 here. -/
def Massage.reset : Massage :=
  { state := .off, pattern := none, intensity := 3, step := 0, phase := none, phaseAt := none,
    passes := 0, sessionAt := none, pendingStart := none, lastPattern := 0, lastIntensity := 3,
    buffer := [], riseLeft := [], mirrorNow := none, mirrorKnown := 0 }

/-- R123, R126, R127, R136. -/
def Air.reset : Air :=
  { chambers := Vector.replicate 12 Chamber.reset, claim := none, granted := false, overload := 0,
    massage := Massage.reset }

/-- R147, last column. -/
def Zone.reset : Zone :=
  { level := 0, state := .off, temperature := none, period := none, fault := none,
    confirm := Vector.replicate 5 0, present := 0, ack := none, stepSince := none,
    onThrough := false, partnerOn := false, spinUp := 0, mirrorNow := none, duties := none }

/-- R167, last column. -/
def Crash.reset : Crash :=
  { state := .notReady, armAt := none, pullAt := none, holdAt := none, pullTime := 0,
    snapAxes := Vector.replicate 8 none, snapChambers := Vector.replicate 12 none, kind := .none,
    legs := [], drops := 0 }

/-- R162. SLINK is taken as high since the reset (log entry 9). -/
def Link.reset : Link :=
  { state := .waitSync, ready := false, bitTime := 0, edges := [], command := none, data := none,
    received := 0, expected := 0, fieldAt := none, reported := [], lineHigh := true, lineSince := 0,
    turnAt := none, reply := none, replyAt := none, levels := [] }

/-- R180, last column. -/
def Journal.reset : Journal :=
  { ring := .noRing, write := 0, read := 0, overrun := false, overrunMark := false, unread := 0,
    classes := Vector.replicate 64 none, counts := Vector.replicate 7 0, recount := [],
    staging := [], work := none, appending := false, refresh := false, memOverrun := false,
    stale := false }

/-- R27: LOADING, nothing in force, the cause of the reset recorded. -/
def ConfigUnit.reset (cause : ResetCause) : ConfigUnit :=
  { state := .loading, origin := none, inForce := none, candidate := [], spoil := .clear,
    restart := false, lastReason := .none, lastSubject := none, cause := cause, step := .none,
    words := [], crashRecord := 0, neutralLeft := [], neutralNow := none }

/-- The part with a reset asserted, over an image memory and a queue of commands: what POR or RSTN leaves
(the reset tables of chapters 1 to 10; R25 keeps the memory). -/
def State.afterReset (cause : ResetCause) (mem : List (Nat × Word)) (pending : List Instr)
    (order : Nat) : State :=
  { pending := pending, now := 0, inReset := true, mem := mem, uport := .idle, lastRead := none,
    path := { table := WindowTable.empty, holdLimit := 20, list := [], resync := false,
              sweep := none, rerun := false },
    ins := { queue := [], waiting := [], behind := [], port := .free, passOver := 0 },
    cfg := ConfigUnit.reset cause, axes := Vector.replicate 8 Axis.reset, budget := Budget.reset,
    engine := Engine.reset, panel := Panel.reset, air := Air.reset,
    zones := Vector.replicate 6 Zone.reset, crash := Crash.reset, link := Link.reset,
    journal := Journal.reset,
    meas := { motor := Vector.replicate 8 none, ntc := Vector.replicate 4 none,
              heater := Vector.replicate 2 none, pump := none, supply := none },
    order := order }

/-- The machine after a power-on reset: POR asserted, nothing written in image memory, no command waiting
(log entry 7). -/
def State.reset : State := State.afterReset .por [] [] 0

/-! ## Stops -/

/-- Faults of the model. -/
inductive Fault
  /-- Raised by no command: the part has no behaviour that stops it. Safe. -/
  | none
  deriving DecidableEq, Repr

/-- Refusals of the model. -/
inductive Refusal
  /-- A command that has no meaning yet: raised by an arm of `exec` only. Safe. -/
  | notModelled (mnemonic : String)
  deriving DecidableEq, Repr

end Sys2Proof.Machine
end

