-- ==== Sys2Proof/Machine/Event.lean ====
section
/-! DEFINITION. What the blocks tell one another within one event. The spec's answers, reports and
announcements between blocks are kept in a work list while one command is carried out; the list is no part of
State and is empty between commands (log entry 29). -/

namespace Sys2Proof.Machine

/-- Something one block tells another in the event being carried out. -/
inductive Sig
  /-- the budget tells an owner (R75) -/
  | told (c : Fin 15) (o : Told)
  /-- an axis's end report (section 3.2): mover, cause, whether it was only a pending request, the energised
  time in ms, whether the goal ended at once without driving -/
  | axisEnd (i : Fin 8) (m : Mover) (cause : StopCause) (onlyPending : Bool) (ms : Nat) (atOnce : Bool)
  /-- an axis's parked report -/
  | axisParked (i : Fin 8) (m : Mover)
  /-- the journal writer may have something to write (R182) -/
  | journal
  /-- the need of the pump may have changed (R126) -/
  | pump
  /-- a recall leg or read has come to its end (R104, R105) -/
  | recallStep
  /-- a queued recall may start (R99) -/
  | queuedRecall
  /-- a profile check may begin (R94) -/
  | profileCheck
  /-- crash legs or chambers may have ended (R173, R175) -/
  | crashStep
  /-- the last chamber of a massage step is done for the rise (R139) -/
  | riseEnd
  /-- a chamber of owner MASSAGE may have been the last in ENDING (R140) -/
  | massageStep
  /-- the mirror value of SEAT MASSAGE may have changed (R141) -/
  | massageMirror
  /-- the panel state may have changed (R114) -/
  | panel
  /-- a climate arrival of the zone comes to its end (R147) -/
  | zoneEnd (z : Fin 6)
  deriving DecidableEq, Repr

/-- The three answers of an owner to an offered write (R6). -/
inductive Answer
  | taken
  | refused
  | busy
  deriving DecidableEq, Repr

/-- The state within an event, with what the blocks still have to be told. -/
structure Ev extends State where
  sigs : List Sig
  deriving DecidableEq, Repr

/-- An event begins with nothing to be told. -/
def State.ev (s : State) : Ev := { toState := s, sigs := [] }

/-- Tell a block something. -/
def Ev.tell (e : Ev) (x : Sig) : Ev := { e with sigs := e.sigs ++ [x] }

end Sys2Proof.Machine
end

