-- ==== Sys2Proof/Machine/Ops.lean ====
section
/-! DEFINITION. Shared operations: image memory, the clock, the configuration in force, the insert queue
(R23), and handing an entry to the journal writer (R181). -/

namespace Sys2Proof.Machine

/-! ## Image memory -/

/-- The word at an address. -/
def Memory.read : List (Nat × Word) → Nat → Word
  | [], _ => Config.unwritten
  | (b, w) :: t, a => if a = b then w else Memory.read t a

/-- The memory with one word written; canonical again. -/
def Memory.write : List (Nat × Word) → Nat → Word → List (Nat × Word)
  | [], a, v => if v = Config.unwritten then [] else [(a, v)]
  | (b, w) :: t, a, v =>
    if a < b then (if v = Config.unwritten then (b, w) :: t else (a, v) :: (b, w) :: t)
    else if a = b then (if v = Config.unwritten then t else (a, v) :: t)
    else (b, w) :: Memory.write t a v

/-- The canonical form: addresses strictly rising, none below `lo`, no entry equal to the unwritten word. -/
def Memory.wfFrom (lo : Nat) : List (Nat × Word) → Bool
  | [] => true
  | (b, w) :: t => decide (lo ≤ b) && decide (w ≠ Config.unwritten) && Memory.wfFrom (b + 1) t

/-- The canonical form of image memory. -/
def Memory.wf (m : List (Nat × Word)) : Bool := Memory.wfFrom 0 m

/-- The word image memory holds at an address. -/
def State.word (s : State) (a : Addr) : Word := Memory.read s.mem a.toNat

/-- Write one word of image memory. -/
def Ev.putWord (e : Ev) (a : Addr) (v : Word) : Ev := { e with mem := Memory.write e.mem a.toNat v }

/-! ## Clock -/

/-- Milliseconds on the clock. -/
def ms (n : Nat) : Nat := n * 1000

/-- A timer's expiry moves the clock to its deadline, if it has not got there (log entry 1). -/
def Ev.due (e : Ev) (t : Nat) : Ev := { e with now := max e.now t }

/-- Time that has passed on the wire (log entry 1). -/
def Ev.pass (e : Ev) (dt : Nat) : Ev := { e with now := e.now + dt }

/-! ## Either order (log entry 4) -/

/-- Two things of one event that either may be taken first: the order is a free value. -/
def Ev.either (e : Ev) (f g : Ev → Ev) : Ev :=
  let e' := { e with order := e.order + 1 }
  if Config.eitherFirst e.order then g (f e') else f (g e')

/-- Three things of one event in any order. -/
def Ev.anyOrder (e : Ev) (f g h : Ev → Ev) : Ev :=
  let n := e.order
  let e' := { e with order := n + 3 }
  if Config.eitherFirst n then
    (if Config.eitherFirst (n + 1) then h (g (f e')) else h (f (g e')))
  else if Config.eitherFirst (n + 1) then
    (if Config.eitherFirst (n + 2) then g (f (h e')) else f (g (h e')))
  else if Config.eitherFirst (n + 2) then g (h (f e')) else f (h (g e'))

/-! ## Configuration in force -/

/-- The configuration in force; every unit unfitted while there is none (R27). -/
def State.conf (s : State) : Conf := s.cfg.inForce.getD Conf.none

def State.axisConf (s : State) (i : Fin 8) : AxisConf := s.conf.axes[i]
def State.chamberConf (s : State) (c : Fin 12) : ChamberConf := s.conf.chambers[c]
def State.zoneConf (s : State) (z : Fin 6) : ZoneConf := s.conf.zones[z]

/-- ACTIVE, or VALIDATING from ACTIVE: the part works under its configuration (R2, R37). -/
def State.working (s : State) : Bool :=
  s.cfg.state == .active || (s.cfg.state == .validating && s.cfg.origin == some .active)

/-- FALLBACK, or VALIDATING from FALLBACK (R3). -/
def State.fellBack (s : State) : Bool :=
  s.cfg.state == .fallback || (s.cfg.state == .validating && s.cfg.origin == some .fallback)

/-- A crash guard is in force (R21). -/
def State.crashGuard (s : State) : Bool :=
  s.crash.state == .pulling || s.crash.state == .holding || s.crash.state == .locked

def allAxes : List (Fin 8) := [0, 1, 2, 3, 4, 5, 6, 7]
def allChambers : List (Fin 12) := [0, 1, 2, 3, 4, 5, 6, 7, 8, 9, 10, 11]
def allZones : List (Fin 6) := [0, 1, 2, 3, 4, 5]
def allProfiles : List (Fin 4) := [0, 1, 2, 3]

/-- A fitted axis with crash role PULL (R167). -/
def State.crashAxis (s : State) (i : Fin 8) : Bool := (s.axisConf i).fitted && (s.axisConf i).crashPull

/-- A fitted chamber with a crash role (R167). -/
def State.crashChamber (s : State) (c : Fin 12) : Bool :=
  (s.chamberConf c).fitted && (s.chamberConf c).crashRole != .none

/-! ## Insert queue (R23) -/

/-- The operation an inserted access belongs to: the work a block does for one axis, chamber, zone, profile or
purpose (R23). -/
def Purpose.operation : Purpose → Nat
  | .validation => 0
  | .startUp => 1
  | .neutral _ => 2
  | .marker i => 10 + i.val
  | .parking i => 10 + i.val
  | .axisNeutral i _ => 10 + i.val
  | .profileCheck => 30
  | .storeWrite => 31
  | .recallRead => 32
  | .seatNeutral st => if st then 34 else 33
  | .chamberNeutral c => 40 + c.val
  | .patternFetch => 60
  | .massageMirror => 61
  | .levelMirror z => 62 + z.val
  | .crashRecord => 70
  | .crashClearNeutral => 71
  | .catchUp => 72
  | .sweep => 73
  | .writeBack => 74
  | .journalInit => 75
  | .append => 75
  | .headerRefresh => 75
  | .recount => 75

/-- Places of the insert queue. -/
def queueSize : Nat := 16

/-- An access waits for a place, behind an access of its own operation that waits already (R23). -/
def Inserts.await (q : Inserts) (c : Cycle) : Inserts :=
  if q.waiting.any (fun w => w.purpose.operation == c.purpose.operation) then { q with behind := q.behind ++ [c] }
  else { q with waiting := q.waiting ++ [c] }

/-- Offer an access: it is queued if there is a place, and waits for one otherwise (R23). -/
def Inserts.offer (q : Inserts) (c : Cycle) : Inserts :=
  if q.queue.length < queueSize then { q with queue := q.queue ++ [c] } else q.await c

/-- The next access of every operation that has none waiting any more is offered, and waits behind the others (R23). -/
def Inserts.offerNext (q : Inserts) : Inserts := q.behind.foldl Inserts.await { q with behind := [] }

/-- The first entry for which `p` holds, and the rest. -/
def takeFirst (p : Cycle → Bool) : List Cycle → Option (Cycle × List Cycle)
  | [] => none
  | c :: t => if p c then some (c, t) else (takeFirst p t).map (fun x => (x.1, c :: x.2))

/-- A freed place takes the access that has waited longest among the urgent ones, else the one that has
waited longest; the operation's next access is then offered (R23). -/
def Inserts.admitOne (q : Inserts) : Inserts :=
  if queueSize ≤ q.queue.length then q
  else
    match (takeFirst (·.urgent) q.waiting).or (takeFirst (fun _ => true) q.waiting) with
    | none => q
    | some (c, rest) => { q with queue := q.queue ++ [c], waiting := rest }.offerNext

/-- Fill the freed places. -/
def Inserts.admitAll : Nat → Inserts → Inserts
  | 0, q => q
  | n + 1, q => Inserts.admitAll n q.admitOne

/-- Entries withdrawn by R18, R19 and R23, and with them accesses that wait for a place (log entry 23); the pass-over
count returns to 0 if that empties the queue (R24). -/
def Inserts.withdraw (q : Inserts) (p : Cycle → Bool) : Inserts :=
  let left := q.queue.filter (fun c => !p c)
  let q' := { q with queue := left,
                     waiting := q.waiting.filter (fun c => !p c),
                     behind := q.behind.filter (fun c => !p c),
                     passOver := if left.isEmpty && !q.queue.isEmpty then 0 else q.passOver }
  q'.offerNext.admitAll queueSize

/-- Mark the cycles for which `p` holds, wherever they are, as reads whose value will be discarded. -/
def Inserts.discard (q : Inserts) (p : Cycle → Bool) : Inserts :=
  let mark := fun (c : Cycle) => if p c then { c with discard := true } else c
  { q with queue := q.queue.map mark, waiting := q.waiting.map mark, behind := q.behind.map mark,
           port := match q.port with
             | .inserted c w => .inserted (mark c) w
             | x => x }

/-- Offer an inserted read. -/
def Ev.offerRead (e : Ev) (p : Purpose) (a : Addr) : Ev :=
  { e with ins := e.ins.offer ⟨p, false, a, 0, false, false⟩ }

/-- Offer an inserted write. -/
def Ev.offerWrite (e : Ev) (p : Purpose) (a : Addr) (v : Word) (urgent : Bool) : Ev :=
  { e with ins := e.ins.offer ⟨p, true, a, v, urgent, false⟩ }

/-! ## Places of the seat image, under the windows of the configuration in force -/

/-- The address of a word of a region. -/
def regionAddr (k : Conf) (r : Region) (off : Nat) : Addr :=
  (k.windows.of r).base + toAddr off

/-- Offset of a CONTROL slot in its region (section 11.3). -/
def CSlot.place : CSlot → Region × Nat
  | .recall => (.seat, 0)
  | .store => (.seat, 1)
  | .massage => (.seat, 2)
  | .panelEnable => (.seat, 3)
  | .crashClear => (.seat, 4)
  | .axTarget i => (.axis, 16 * i.val)
  | .axJog i => (.axis, 16 * i.val + 1)
  | .axDuty i => (.axis, 16 * i.val + 2)
  | .axLimitLo i => (.axis, 16 * i.val + 3)
  | .axLimitHi i => (.axis, 16 * i.val + 4)
  | .airTarget c => (.air, 4 * c.val)
  | .level z => (.climate, 8 * z.val)
  | .readIndex => (.journal, 1)

/-- The address of a CONTROL slot under a configuration. -/
def slotAddr (k : Conf) (c : CSlot) : Addr := regionAddr k c.place.1 c.place.2

/-- Neutral values (R64, R65, R107, R121, R133, R141, R157, R179). READ_INDEX has none (R184): its write-back
is the writer's read index. -/
def State.neutralValue (s : State) : CSlot → Word
  | .recall => 0
  | .store => 0
  | .massage => 0
  | .panelEnable => 1
  | .crashClear => 0
  | .axTarget _ => absent
  | .axJog _ => 0
  | .axDuty _ => absent
  | .axLimitLo _ => absent
  | .axLimitHi _ => absent
  | .airTarget _ => absent
  | .level _ => 0
  | .readIndex => toWord s.journal.read.val

/-! ## Handing an entry to the journal writer (R181) -/

/-- The class of a code (section 10.1). -/
def EntryCode.cls : EntryCode → EntryClass
  | .pull | .holdExpired | .restored | .locked | .cleared => .crash
  | .hallFault | .hallRange | .hallUnexpected | .shadowStale | .supplySag | .supplyRestored
  | .storeAbandoned | .fillAbandoned | .leak | .noRise | .zone _ => .fault
  | .refusedValue | .writeStatus | .writeOwned | .unfitted | .lateRefused | .storeGuard
  | .storeBusy | .profileInvalid | .patternInvalid => .refusal
  | .moveEnd | .recallAborted => .motion
  | .press | .release | .hold | .ambiguous => .panel
  | .reset | .rejected | .applied => .config
  | .link _ => .link

/-- The number of a code in its class, from 1 (section 11.4). -/
def EntryCode.num : EntryCode → Nat
  | .pull => 1 | .holdExpired => 2 | .restored => 3 | .locked => 4 | .cleared => 5
  | .hallFault => 1 | .hallRange => 2 | .hallUnexpected => 3 | .shadowStale => 4
  | .supplySag => 5 | .supplyRestored => 6 | .storeAbandoned => 7 | .fillAbandoned => 8
  | .leak => 9 | .noRise => 10
  | .zone .ntcOpen => 11 | .zone .ntcShort => 12 | .zone .overTemp => 13
  | .zone .elementOpen => 14 | .zone .fanStall => 15
  | .refusedValue => 1 | .writeStatus => 2 | .writeOwned => 3 | .unfitted => 4
  | .lateRefused => 5 | .storeGuard => 6 | .storeBusy => 7 | .profileInvalid => 8
  | .patternInvalid => 9
  | .moveEnd => 1 | .recallAborted => 2
  | .press => 1 | .release => 2 | .hold => 3 | .ambiguous => 4
  | .reset => 1 | .rejected => 2 | .applied => 3
  | .link .rate => 1 | .link .syncSpread => 2 | .link .stopBit => 3
  | .link .unknownCommand => 4 | .link .check => 5 | .link .idleTimeout => 6

/-- Class codes (section 11.4). -/
def EntryClass.num : EntryClass → Nat
  | .crash => 1 | .fault => 2 | .refusal => 3 | .motion => 4 | .panel => 5 | .config => 6
  | .link => 7

/-- The place of a class among the counts and in the notify mask: bit c - 1 (section 11.2). -/
def EntryClass.index : EntryClass → Fin 7
  | .crash => 0 | .fault => 1 | .refusal => 2 | .motion => 3 | .panel => 4 | .config => 5
  | .link => 6

/-- The KIND word (section 11.4). -/
def Entry.kind (x : Entry) : Word :=
  toWord (x.code.cls.num * 4096 + x.high.toNat * 1024 + x.code.num)

/-- The loss of an entry (R181, R182): the overrun flag and the refresh mark in READY, the overrun mark
otherwise. -/
def Journal.lose (j : Journal) : Journal :=
  if j.ring == .ready then { j with overrun := true, refresh := true }
  else { j with overrunMark := true }

/-- Remove the oldest entry that is not of class CRASH. -/
def dropNonCrash : List Entry → Option (List Entry)
  | [] => none
  | x :: t => if x.code.cls == .crash then (dropNonCrash t).map (x :: ·) else some t

/-- Stage an entry (R181). -/
def Journal.stage (j : Journal) (x : Entry) : Journal :=
  if j.staging.length < 8 then { j with staging := j.staging ++ [x] }
  else if x.code.cls == .crash then
    let kept := if j.appending then j.staging.take 1 else []
    let free := if j.appending then j.staging.drop 1 else j.staging
    match dropNonCrash free with
    | some rest => { j with staging := kept ++ rest ++ [x] }.lose
    | none => j.lose
  else j.lose

/-- The present time of the journal: 10 ms units since the end of the last reset (chapter 10). -/
def State.stamp (s : State) : Word := toWord (s.now / 10000)

/-- Hand an entry to the journal writer, with address bits 17:16. After FALLBACK is entered and while no
configuration is in force, entries are discarded (R36, R180). -/
def Ev.handHigh (e : Ev) (code : EntryCode) (high : BitVec 2) (subject detail : Word) : Ev :=
  if e.cfg.inForce.isNone && e.cfg.state != .loading then e
  else
    { e with journal := e.journal.stage ⟨e.stamp, code, high, subject, detail⟩ }.tell .journal

/-- A REFUSAL entry of the path decoder: the address and the value of the write (R10). -/
def Ev.refusal (e : Ev) (code : EntryCode) (a : Addr) (v : Word) : Ev :=
  e.handHigh code (a.extractLsb' 16 2) (a.extractLsb' 0 16) v

/-- Hand an entry to the journal writer. -/
def Ev.hand (e : Ev) (code : EntryCode) (subject detail : Word) : Ev :=
  e.handHigh code 0 subject detail

end Sys2Proof.Machine
end

