-- ==== Sys2Proof/Machine/Budget.lean ====
section
/-! DEFINITION. The load budget (04_load_budget.md): claims, releases, the grant pass, the shed to fit, and the
answers to the crash controller. Its outcomes are told to the owners through the work list. -/

namespace Sys2Proof.Machine

/-- The budget's fields replaced within an event. -/
def Ev.withBudget (e : Ev) (b : Budget) : Ev := { e with budget := b }

/-- Claimant of an axis, of the pump, of a zone (section 4.1). -/
def axisClaimant (i : Fin 8) : Fin 15 := ⟨i.val, by omega⟩
def pumpClaimant : Fin 15 := 8
def zoneClaimant (z : Fin 6) : Fin 15 := ⟨9 + z.val, by omega⟩

def allClaimants : List (Fin 15) := [0, 1, 2, 3, 4, 5, 6, 7, 8, 9, 10, 11, 12, 13, 14]

/-- The priorities, highest first (section 4.1). -/
def Priority.rank : Priority → Nat
  | .crash => 0
  | .motion => 1
  | .pump => 2
  | .fan => 3
  | .heater => 4

/-- The claimant's current class in force (R76). -/
def claimUnits (k : Conf) (c : Fin 15) : Nat :=
  if h : c.val < 8 then k.axes[c.val].current
  else if c.val = 8 then k.pumpCurrent
  else k.zones[c.val - 9].current

/-- The crash loads' sum (R31, R86). -/
def crashLoads (k : Conf) : Nat :=
  (k.axes.toList.foldl (fun n a => if a.fitted && a.crashPull then n + a.current else n) 0) +
    (if k.chambers.toList.any (fun c => c.fitted && c.crashRole == .inflate) then k.pumpCurrent else 0)

/-- The claimant is a crash load (section 4.6). -/
def isCrashLoad (k : Conf) (c : Fin 15) : Bool :=
  if h : c.val < 8 then k.axes[c.val].fitted && k.axes[c.val].crashPull
  else c.val == 8 && k.chambers.toList.any (fun x => x.fitted && x.crashRole == .inflate)

/-- The sum of the units of GRANTED entries. -/
def Budget.grantedTotal (b : Budget) : Nat :=
  b.table.toList.foldl (fun n c => if c.state == .granted then n + c.units else n) 0

/-- The sum of the units of GRANTED entries of priority MOTION. -/
def Budget.motorTotal (b : Budget) : Nat :=
  b.table.toList.foldl
    (fun n c => if c.state == .granted && c.priority == some .motion then n + c.units else n) 0

/-- The grantable cap (R78): the effective cap less the reservation, or 0. -/
def Budget.grantable (b : Budget) : Nat := b.effective - b.reservation

/-- Entries in a state. -/
def Budget.countIn (b : Budget) (g : GrantState) : Nat :=
  (b.table.toList.filter (fun c => c.state == g)).length

/-- An entry's fields replaced. -/
def Budget.set (b : Budget) (c : Fin 15) (x : Claim) : Budget := { b with table := b.table.set c x }

/-- Join the waiting queue at the tail of a priority (R77). -/
def Budget.enqueue (b : Budget) (c : Fin 15) (p : Priority) : Budget :=
  let ahead := fun (d : Fin 15) => match b.table[d].priority with
    | some q => decide (q.rank ≤ p.rank)
    | none => true
  { b with queue := b.queue.takeWhile ahead ++ [c] ++ b.queue.dropWhile ahead }

/-- Leave the waiting queue. -/
def Budget.dequeue (b : Budget) (c : Fin 15) : Budget := { b with queue := b.queue.filter (· != c) }

/-- An entry becomes WAITING at the tail of its priority, its waited-since now (R77). -/
def Budget.await (b : Budget) (now : Nat) (c : Fin 15) (p : Priority) (w : WaitClass) : Budget :=
  let b := b.dequeue c
  let b := b.set c { b.table[c] with state := .waiting, priority := some p, wait := w, since := some now }
  b.enqueue c p

/-- An entry becomes NONE and leaves the queue. -/
def Budget.drop (b : Budget) (c : Fin 15) : Budget :=
  (b.set c { b.table[c] with state := .none, since := none }).dequeue c

/-- An entry becomes SHED at a priority and a wait class, and leaves the queue (R74, R88). -/
def Budget.setAside (b : Budget) (c : Fin 15) (p : Priority) (w : WaitClass) : Budget :=
  (b.set c { b.table[c] with state := .shed, priority := some p, wait := w, since := none }).dequeue c

/-- An entry is granted and takes the next grant sequence (R79). -/
def Budget.grant (b : Budget) (c : Fin 15) : Budget :=
  { (b.set c { b.table[c] with state := .granted, since := none, seq := b.nextSeq }).dequeue c with
    nextSeq := b.nextSeq + 1 }

/-- The GRANTED entry of a priority with the most recent grant sequence. -/
def Budget.newest (b : Budget) (p : Priority) : Option (Fin 15) :=
  allClaimants.foldl
    (fun best c =>
      if b.table[c].state == .granted && b.table[c].priority == some p then
        match best with
        | none => some c
        | some d => if b.table[d].seq < b.table[c].seq then some c else best
      else best) none

/-- Shed one GRANTED entry (R81): a pump or zone entry waits again at the tail of its priority, an axis entry
becomes NONE. -/
def Ev.shedOne (e : Ev) (c : Fin 15) : Ev :=
  let x := e.budget.table[c]
  let b := match x.priority with
    | some .motion => e.budget.drop c
    | some p => e.budget.await e.now c p x.wait
    | none => e.budget.drop c
  (e.withBudget b).tell (.told c .shed)

/-- The next entry that R80 sheds: heaters, fans, the pump at PUMP. -/
def Budget.nextToShed (b : Budget) : Option (Fin 15) :=
  (b.newest .heater).or ((b.newest .fan).or (b.newest .pump))

/-- Whether the head of the queue fits (R79). -/
def State.headFits (s : State) (c : Fin 15) : Bool :=
  let b := s.budget
  let total := b.grantedTotal + b.table[c].units
  match b.table[c].priority with
  | some .motion =>
    decide (total ≤ b.grantable) && decide (b.motorTotal + b.table[c].units ≤ s.conf.motorCap)
  | some .crash =>
    if s.crash.state == .pulling then decide (total ≤ s.conf.totalCap)
    else decide (total ≤ b.grantable)
  | _ => decide (total ≤ b.grantable)

/-- R80: whether loads are shed for a head that does not fit. -/
def State.headSheds (s : State) (c : Fin 15) : Bool :=
  let b := s.budget
  match b.table[c].priority with
  | some .motion => decide (b.motorTotal + b.table[c].units ≤ s.conf.motorCap)
  | some .crash => true
  | _ => false

/-- The grant pass (R79, R80). The bound is above the number of grants and sheds one pass can make. -/
def Ev.passN : Nat → Ev → Ev
  | 0, e => e
  | n + 1, e =>
    match e.budget.queue with
    | [] => e
    | c :: _ =>
      if e.headFits c then Ev.passN n ((e.withBudget (e.budget.grant c)).tell (.told c .granted))
      else if e.headSheds c then
        match e.budget.nextToShed with
        | some d => Ev.passN n (e.shedOne d)
        | none => e
      else e

/-- The grant pass. -/
def Ev.grantPass (e : Ev) : Ev := Ev.passN 64 e

/-- First part of the shed to fit (R83): the motor total. -/
def Ev.fitMotorN : Nat → Ev → Ev
  | 0, e => e
  | n + 1, e =>
    if e.conf.motorCap < e.budget.motorTotal then
      match e.budget.newest .motion with
      | some c => Ev.fitMotorN n (e.shedOne c)
      | none => e
    else e

/-- Second part of the shed to fit (R83): the granted total. -/
def Ev.fitTotalN : Nat → Ev → Ev
  | 0, e => e
  | n + 1, e =>
    if e.budget.grantable < e.budget.grantedTotal then
      match e.budget.nextToShed.or (e.budget.newest .motion) with
      | some c => Ev.fitTotalN n (e.shedOne c)
      | none => e
    else e

/-- The shed to fit, with the grant pass that follows it (R83). -/
def Ev.shedToFit (e : Ev) : Ev := (Ev.fitTotalN 32 (Ev.fitMotorN 32 e)).grantPass

/-- An owner claims (R74, R88). -/
def Ev.claim (e : Ev) (c : Fin 15) (p : Priority) (w : WaitClass) : Ev :=
  let b := e.budget
  let x := b.table[c]
  match x.state with
  | .none =>
    if b.crashHold && p == .motion then e.tell (.told c .refused)
    else if b.crashHold && p != .crash then
      (e.withBudget (b.setAside c p w)).tell (.told c .shed)
    else (e.withBudget (b.await e.now c p w)).grantPass
  | .waiting =>
    if x.priority == some p then e else (e.withBudget (b.await e.now c p w)).grantPass
  | .granted =>
    if x.priority == some p then e else e.withBudget (b.set c { x with priority := some p, wait := w })
  | .shed =>
    if x.priority == some p then e else e.withBudget (b.set c { x with priority := some p, wait := w })

/-- What is to be told is a decision of the budget on the claim of a claimant. -/
def Sig.tells (c : Fin 15) : Sig → Bool
  | .told d _ => d == c
  | _ => false

/-- The decisions on the claim of a claimant that its owner has not been told yet go with the claim (R75): a later claim of
the claimant is not told of them. -/
def Ev.forgetTold (e : Ev) (c : Fin 15) : Ev := { e with sigs := e.sigs.filter (fun x => !x.tells c) }

/-- An owner releases its claim (R75), whatever the budget has decided on it in the same event. -/
def Ev.releaseClaim (e : Ev) (c : Fin 15) : Ev :=
  let e := e.forgetTold c
  if e.budget.table[c].state == .none then e else (e.withBudget (e.budget.drop c)).grantPass

/-- A waiting claim reaches its wait limit (R82). -/
def Ev.refuseClaim (e : Ev) (c : Fin 15) : Ev :=
  ((e.withBudget (e.budget.drop c)).tell (.told c .refused)).grantPass

/-- Wait limits, in microseconds; none for UNLIMITED. -/
def WaitClass.limit : WaitClass → Option Nat
  | .unlimited => none
  | .limited2s => some 2000000
  | .limited5s => some 5000000

/-- The crash controller enters ARMED (R86): the reservation becomes the crash loads' sum. It holds for every grant pass of
the event; the shed to fit under it is `Ev.enterArmed`'s, in either order with the releases. -/
def Ev.budgetArm (e : Ev) : Ev := e.withBudget { e.budget with reservation := crashLoads e.conf }

/-- ARMED is left for IDLE (R86). -/
def Ev.budgetDisarm (e : Ev) : Ev := (e.withBudget { e.budget with reservation := 0 }).grantPass

/-- One entry at PULL (R87 steps 2 to 4). -/
def Ev.pullEntry (e : Ev) (c : Fin 15) : Ev :=
  let b := e.budget
  let x := b.table[c]
  if isCrashLoad e.conf c then
    let b' := b.set c { x with state := .granted, priority := some .crash, wait := .unlimited,
                               since := none, seq := b.nextSeq }
    (e.withBudget { b' with nextSeq := b.nextSeq + 1 }).tell (.told c .granted)
  else if x.state == .waiting || x.state == .granted then
    if c.val < 8 then (e.withBudget (b.drop c)).tell (.told c .revoked)
    else
      match x.priority with
      | some p => (e.withBudget (b.setAside c p x.wait)).tell (.told c .shed)
      | none => e.withBudget (b.drop c)
  else e

/-- The crash controller takes PULL (R87). -/
def Ev.budgetPull (e : Ev) : Ev :=
  let e := e.withBudget { e.budget with reservation := 0, sagCount := 0, recoveryCount := 0 }
  let e := allClaimants.foldl Ev.pullEntry e
  e.withBudget { e.budget with queue := [], crashHold := true }

/-- One entry's demotion when PULLING is left (R88). -/
def Ev.demoteEntry (holdStays : Bool) (e : Ev) (c : Fin 15) : Ev :=
  let x := e.budget.table[c]
  if x.priority == some .crash && x.state != .none then
    if c.val < 8 then e.withBudget (e.budget.set c { x with priority := some .motion })
    else if holdStays then (e.withBudget (e.budget.setAside c .pump .limited5s)).tell (.told c .shed)
    else if x.state == .waiting then e.withBudget (e.budget.await e.now c .pump .limited5s)
    else e.withBudget (e.budget.set c { x with priority := some .pump, wait := .limited5s })
  else e

/-- The crash controller leaves PULLING (R88). -/
def Ev.budgetDemote (e : Ev) (holdStays : Bool) : Ev :=
  allClaimants.foldl (Ev.demoteEntry holdStays) e

/-- One entry on entering LOCKED, after the demotion (R89): pump and zone entries are set aside. -/
def Ev.lockEntry (e : Ev) (c : Fin 15) : Ev :=
  let x := e.budget.table[c]
  if 8 ≤ c.val && (x.state == .waiting || x.state == .granted) then
    match x.priority with
    | some p => (e.withBudget (e.budget.setAside c p x.wait)).tell (.told c .shed)
    | none => e.withBudget (e.budget.drop c)
  else e

/-- The crash controller enters LOCKED (R89). No shed to fit follows the demotion: the axes release with LOCKED in the same
event, and R83 and R72 give no order (log entry 33). -/
def Ev.budgetLock (e : Ev) : Ev :=
  let e := e.withBudget { e.budget with reservation := 0, crashHold := true }
  allClaimants.foldl Ev.lockEntry (e.budgetDemote true)

/-- One entry at the end of the crash hold (R89). -/
def Ev.unholdEntry (e : Ev) (c : Fin 15) : Ev :=
  let x := e.budget.table[c]
  if x.state == .shed then
    match x.priority with
    | some p => e.withBudget (e.budget.await e.now c p x.wait)
    | none => e
  else e

/-- The crash hold ends (R89). -/
def Ev.budgetUnhold (e : Ev) : Ev :=
  let e := e.withBudget { e.budget with crashHold := false }
  (allClaimants.foldl Ev.unholdEntry e).shedToFit

/-- The configuration unit enters ACTIVE (R76). -/
def Ev.budgetOpen (e : Ev) : Ev :=
  let t := allClaimants.foldl (fun b c => b.set c { b.table[c] with units := claimUnits e.conf c }) e.budget
  e.withBudget { t with effective := e.conf.totalCap }

/-- Steps 1 to 3 of R90: units, effective cap, reservation under a new configuration. -/
def Ev.budgetReunit (e : Ev) : Ev :=
  let t := allClaimants.foldl (fun b c => b.set c { b.table[c] with units := claimUnits e.conf c }) e.budget
  e.withBudget
    { t with effective := if t.sagging then e.conf.reducedCap else e.conf.totalCap,
             reservation := if e.crash.state == .armed then crashLoads e.conf else t.reservation }

/-- A supply voltage sample (R84, R85). Samples are taken while the part works under a configuration and not
during PULLING. -/
def Ev.supply (e : Ev) (v : Word) : Ev :=
  let e := { e with meas := { e.meas with supply := some v } }
  let b := e.budget
  if !e.working || e.crash.state == .pulling then e
  else if !b.sagging then
    if v.toNat < e.conf.sagThreshold then
      if b.sagCount + 1 < 3 then e.withBudget { b with sagCount := b.sagCount + 1 }
      else
        ((e.withBudget { b with sagging := true, sagCount := 0, recoveryCount := 0,
                                effective := e.conf.reducedCap }).shedToFit).hand .supplySag absent v
    else e.withBudget { b with sagCount := 0 }
  else if e.conf.sagThreshold + 5 ≤ v.toNat then
    if b.recoveryCount + 1 < 10 then e.withBudget { b with recoveryCount := b.recoveryCount + 1 }
    else
      ((e.withBudget { b with sagging := false, sagCount := 0, recoveryCount := 0,
                              effective := e.conf.totalCap }).hand .supplyRestored absent v).grantPass
  else e.withBudget { b with recoveryCount := 0 }

end Sys2Proof.Machine
end

