-- ==== Sys2Proof/Machine/Air.lean ====
section
/-! DEFINITION. The chamber controller (07_air_chambers_and_massage.md): settling, posture requests, the pump
claim, pressure samples, massage, and its answers to the crash controller and to a new configuration. -/

namespace Sys2Proof.Machine

/-- A chamber record replaced within an event. -/
def Ev.setChamber (e : Ev) (c : Fin 12) (x : Chamber) : Ev :=
  { e with air := { e.air with chambers := e.air.chambers.set c x } }

/-- The massage record replaced within an event. -/
def Ev.setMassage (e : Ev) (m : Massage) : Ev := { e with air := { e.air with massage := m } }

/-- A chamber record in a state; the protective-vent mark clears on leaving VENTING (R123). -/
def Chamber.enter (x : Chamber) (st : ChamberState) : Chamber :=
  { x with state := st, protective := x.protective && st == .venting }

/-- The latest sample, taken as 0 where none has arrived (R129, R130). -/
def Chamber.pressure (x : Chamber) : Nat := x.sample.getD 0

/-- A chamber is empty at 5 or below (R123). -/
def emptyBelow : Nat := 5

def Chamber.isEmpty (x : Chamber) : Bool := decide (x.pressure ≤ emptyBelow)

/-- The chamber needs the pump. -/
def Chamber.needsPump (x : Chamber) : Bool := x.state == .fillWait || x.state == .filling

/-- The chamber's valves are moving air or it waits to do so. -/
def Chamber.moving (x : Chamber) : Bool := x.needsPump || x.state == .venting

/-- The fill valve (R125). -/
def Chamber.fillOpen (x : Chamber) : Bool := x.state == .filling

/-- The vent valve (R125). -/
def Chamber.ventOpen (x : Chamber) : Bool := x.state == .venting || (x.state == .fault && x.faultVent)

/-- The pump output: 100 % while the fill set is not empty and the grant is held (R126). -/
def State.pumpOn (s : State) : Bool := s.air.granted && s.air.chambers.toList.any Chamber.fillOpen

/-! ## The pump claim (R126) -/

/-- The priority of the claim that the chambers call for. -/
def State.pumpWanted (s : State) : Option Priority :=
  let l := s.air.chambers.toList
  if l.any (fun x => x.needsPump && x.fillOnly) then some .crash
  else if l.any Chamber.needsPump then some .pump
  else none

/-- The wait class of a pump claim (R74). -/
def pumpWait (p : Priority) : WaitClass := if p == Priority.crash then .unlimited else .limited5s

/-- The claim as the controller holds it. -/
def Ev.setPump (e : Ev) (claim : Option Priority) (granted : Bool) : Ev :=
  { e with air := { e.air with claim := claim, granted := granted } }

/-- A waiting chamber goes on to FILLING while the grant is held; in a crash hold only one of owner CRASH. -/
def Ev.fillOne (e : Ev) (c : Fin 12) : Ev :=
  let x := e.air.chambers[c]
  if x.state == .fillWait && (!e.crashGuard || x.owner == .crash) then e.setChamber c (x.enter .filling) else e

/-- The fill set follows the grant; the overload count is 0 while the pump is off (R126, R127). -/
def Ev.fillAll (e : Ev) : Ev :=
  let e := if e.air.granted then allChambers.foldl Ev.fillOne e else e
  if e.pumpOn then e else { e with air := { e.air with overload := 0 } }

/-- The claim on the pump is made, changed or released as the chambers need it (R126). -/
def Ev.pumpSync (e : Ev) : Ev :=
  let e := match e.air.claim, e.pumpWanted with
    | none, none => e
    | some _, none => (e.setPump none false).releaseClaim pumpClaimant
    | none, some p => (e.setPump (some p) false).claim pumpClaimant p (pumpWait p)
    | some q, some p =>
      if q == p then e
      else if e.crashGuard && p == Priority.pump then
        ((e.setPump (some p) false).releaseClaim pumpClaimant).claim pumpClaimant p (pumpWait p)
      else (e.setPump (some p) e.air.granted).claim pumpClaimant p (pumpWait p)
  e.fillAll

/-! ## Ends of requests and of returns -/

/-- A slot request is over: the neutral value is offered to the slot (R133). -/
def Ev.slotOver (e : Ev) (c : Fin 12) : Ev :=
  if e.air.chambers[c].slotRequest then
    (e.setChamber c { e.air.chambers[c] with slotRequest := false }).offerWrite (.chamberNeutral c)
      (slotAddr e.conf (.airTarget c)) (e.neutralValue (.airTarget c)) false
  else e

/-- The owner a chamber takes when a return or a crash ends (R127, R143). -/
def State.homeOwner (s : State) (c : Fin 12) : ChamberOwner :=
  if (s.chamberConf c).role == .massage then .none else .posture

/-- A return ends: the chamber is SEALED and given back with a present target, its fill time 0 (R139, R143, R131); also
where its fill is abandoned (R127, log entry 35). -/
def Ev.returned (e : Ev) (c : Fin 12) (target : Option Nat) : Ev :=
  (e.setChamber c { e.air.chambers[c] with
    owner := e.homeOwner c, borrowed := false, returning := false, fillOnly := false, fillTime := 0,
    target := target }).tell .massageStep

/-- A chamber is done for the rise of the step (R139). -/
def Ev.riseDone (e : Ev) (c : Fin 12) : Ev :=
  let m := e.air.massage
  if m.state == .running && m.phase == some .rise && m.riseLeft.contains c then
    let left := m.riseLeft.erase c
    let e := e.setMassage { m with riseLeft := left }
    if left.isEmpty then e.tell .riseEnd else e
  else e

/-- The chamber settles to the target of a massage step, not to one that a request or a return gave it. -/
def Chamber.inStep (x : Chamber) : Bool := x.owner == .massage && !x.returning

/-- The chamber has entered SEALED at its target (R128, R129): what ends with it. A slot request ends at the target it
set, not at a step target (R133). -/
def Ev.reached (e : Ev) (c : Fin 12) : Ev :=
  let e := (if e.air.chambers[c].inStep then e else e.slotOver c).tell .pump
  let x := e.air.chambers[c]
  match x.owner with
  | .posture => e.setChamber c { x with fillTime := 0 }
  | .massage =>
    if x.returning then e.returned c x.posture
    else if e.air.massage.state == .ending && !x.borrowed then
      (e.setChamber c { x with owner := .none }).tell .massageStep
    else e.riseDone c
  | .crash => (if x.returning then e.returned c x.posture else e).tell .crashStep
  | .none => e

/-- The chamber enters SEALED where it stands. -/
def Ev.sealHere (e : Ev) (c : Fin 12) : Ev := (e.setChamber c (e.air.chambers[c].enter .sealed)).tell .pump

/-- A chamber settles to a target, valves moving (R129). -/
def Ev.settleNow (e : Ev) (c : Fin 12) (t : Nat) : Ev :=
  let x := { e.air.chambers[c] with target := some t, settlePending := false, protective := false }
  if x.pressure < t then (e.setChamber c (x.enter .fillWait)).tell .pump
  else if t < x.pressure && !x.fillOnly then (e.setChamber c (x.enter .venting)).tell .pump
  else (e.setChamber c (x.enter .sealed)).reached c

/-- A chamber settles to a target; in a crash hold only one of owner CRASH does, any other records the target
and sets settle pending (R129). -/
def Ev.settle (e : Ev) (c : Fin 12) (t : Nat) : Ev :=
  if e.crashGuard && e.air.chambers[c].owner != .crash then
    e.setChamber c { e.air.chambers[c] with target := some t, settlePending := true }
  else e.settleNow c t

/-! ## Posture requests (R130) -/

/-- A posture request for a chamber. A crash return is redirected also after RESTORING has ended or LOCKED has been left
(log entry 35). -/
def Ev.postureRequest (e : Ev) (c : Fin 12) (v : Nat) : Ev :=
  let x := e.air.chambers[c]
  let e := e.setChamber c { x with posture := some v }
  if x.state == .fault then e
  else
    match x.owner with
    | .posture =>
      (e.setChamber c { e.air.chambers[c] with refills := [], fillTime := 0, fault := .none }).settle c v
    | .massage => if x.returning then e.settle c v else e.slotOver c
    | .crash => if x.returning && !e.crashGuard then e.settleNow c v else e.slotOver c
    | .none => e

/-- A recall value or a lumbar step also ends a slot request in force (R130). -/
def Ev.postureGiven (e : Ev) (c : Fin 12) (v : Nat) : Ev := (e.slotOver c).postureRequest c v

/-- A lumbar chamber (R119). -/
def State.lumbar (s : State) (c : Fin 12) : Bool :=
  decide (c.val < 4) && (s.chamberConf c).fitted && (s.chamberConf c).role != .massage

/-- A lumbar step of one chamber (R130). -/
def Ev.lumbarOne (up : Bool) (e : Ev) (c : Fin 12) : Ev :=
  if e.lumbar c then
    let x := e.air.chambers[c]
    let base := x.posture.getD x.pressure
    let v := if up then min (e.chamberConf c).maxPressure (base + 20)
             else min (e.chamberConf c).maxPressure (base - 20)
    e.postureGiven c v
  else e

/-- A lumbar step request (R119). -/
def Ev.lumbarStep (e : Ev) (up : Bool) : Ev := allChambers.foldl (Ev.lumbarOne up) e

/-! ## Faults and abandoned fills -/

/-- A chamber enters FAULT (R131). -/
def Ev.chamberFault (e : Ev) (c : Fin 12) (k : ChamberFault) : Ev :=
  let e := e.slotOver c
  let x := e.air.chambers[c]
  let e := e.setChamber c { x.enter .fault with fault := k, target := none, settlePending := false,
                                                faultVent := !x.isEmpty }
  let code := if k == .leak then EntryCode.leak else .noRise
  (e.tell .pump).hand code (toWord c.val) (match x.sample with
    | some v => toWord v
    | none => absent)

/-- The fill of one chamber is abandoned (R127). The fill time of a posture fill returns to 0 with it (log entry
35). -/
def Ev.abandonOne (e : Ev) (c : Fin 12) : Ev :=
  let e := e.sealHere c
  let x := e.air.chambers[c]
  match x.owner with
  | .posture =>
    (e.setChamber c { x with target := some x.pressure, fillTime := 0 }).slotOver c
  | .massage => if x.returning then (e.returned c (some x.pressure)).slotOver c else e.riseDone c
  | .crash => (if x.returning then (e.returned c (some x.pressure)).slotOver c else e).tell .crashStep
  | .none => e

/-- The set of chambers for which `p` holds, one bit per chamber. -/
def State.chamberSet (s : State) (p : Chamber → Bool) : Nat :=
  allChambers.foldl (fun n c => if p s.air.chambers[c] then n + 2 ^ c.val else n) 0

/-- Fills are abandoned in one event, with one entry (R127). -/
def Ev.abandonFills (e : Ev) (p : Chamber → Bool) (cause : Nat) : Ev :=
  let set := e.chamberSet p
  if set == 0 then e
  else
    let e := allChambers.foldl (fun e c => if p e.air.chambers[c] then e.abandonOne c else e) e
    e.hand .fillAbandoned (toWord set) (toWord cause)

/-- The budget tells the chamber controller its decision on the pump (R126). -/
def Ev.pumpTold (e : Ev) (o : Told) : Ev :=
  match o with
  | .granted =>
    if e.air.claim.isSome && e.budget.table[pumpClaimant].state == .granted then
      (e.setPump e.air.claim true).fillAll
    else e
  | .shed =>
    let e := e.setPump e.air.claim false
    (allChambers.foldl (fun e c =>
      if e.air.chambers[c].state == .filling then e.setChamber c (e.air.chambers[c].enter .fillWait) else e)
      e).fillAll
  | .refused | .revoked =>
    if e.air.claim.isSome && e.budget.table[pumpClaimant].state == .none then
      ((e.setPump none false).abandonFills (fun x => x.state == .fillWait) 1).tell .pump
    else e

/-- A pump current sample (R127). -/
def Ev.pumpSample (e : Ev) (v : Word) : Ev :=
  let e := { e with meas := { e.meas with pump := some v } }
  if !e.pumpOn then e
  else if 2 * e.conf.pumpCurrent < v.toNat then
    if e.air.overload + 1 < 3 then { e with air := { e.air with overload := e.air.overload + 1 } }
    else
      let e := { e with air := { e.air with overload := 0, claim := none, granted := false } }
      ((e.abandonFills Chamber.needsPump 2).releaseClaim pumpClaimant).tell .pump
  else { e with air := { e.air with overload := 0 } }

/-! ## Pressure samples (R128, R131) -/

/-- The leak check (R131). -/
def Ev.leakCheck (e : Ev) (c : Fin 12) : Ev :=
  let x := e.air.chambers[c]
  match x.target with
  | none => e
  | some t =>
    if x.settlePending || decide (t - (e.chamberConf c).leakTolerance ≤ x.pressure) then e
    else
      match x.refills with
      | [a, b, d] =>
        if e.now - a < 60000000 then e.chamberFault c .leak
        else (e.setChamber c { x with refills := [b, d, e.now] }).settle c t
      | l => (e.setChamber c { x with refills := l ++ [e.now] }).settle c t

/-- A sample in FILL_WAIT, which R128 leaves as it is: the first one after the maximum pressure was lowered, where it is above
the maximum, has the chamber regulate down, settling to its present target (R129, R145; log entry 42). -/
def Ev.waitSample (e : Ev) (c : Fin 12) (lowered : Bool) : Ev :=
  let x := e.air.chambers[c]
  match x.target with
  | some t => if lowered && decide ((e.chamberConf c).maxPressure < x.pressure) then e.settle c t else e
  | none => e

/-- A pressure sample arrives (R128). A protective vent whose maximum lies below the leak tolerance ends at a sample of 0,
and the vent opens in HOLDING too, for a chamber of owner CRASH (R143; log entry 35). -/
def Ev.pressureSample (e : Ev) (c : Fin 12) (v : Word) : Ev :=
  let k := e.chamberConf c
  if !(e.working && k.fitted) then e
  else
    let lowered := e.air.chambers[c].lowered
    let e := e.setChamber c { e.air.chambers[c] with sample := some v.toNat, lowered := false }
    let x := e.air.chambers[c]
    match x.state with
    | .fillWait => e.waitSample c lowered
    | .filling =>
      if x.target.getD 0 ≤ v.toNat || k.maxPressure ≤ v.toNat then (e.setChamber c (x.enter .sealed)).reached c
      else if x.owner == .posture then
        let e := e.setChamber c { x with fillTime := x.fillTime + 10 }
        if 30000 ≤ x.fillTime + 10 then e.chamberFault c .noRise else e
      else e
    | .venting =>
      if x.protective then
        if v.toNat ≤ k.maxPressure - k.leakTolerance then (e.sealHere c).tell .crashStep else e
      else if v.toNat ≤ max (x.target.getD 0) emptyBelow then (e.setChamber c (x.enter .sealed)).reached c
      else e
    | .sealed =>
      if e.crash.state == .locked then e
      else if k.maxPressure < v.toNat then
        e.setChamber c { x with state := .venting, protective := true }
      else if x.owner == .posture then e.leakCheck c
      else e
    | .fault => if x.isEmpty then e.setChamber c { x with faultVent := false } else e

/-! ## Massage (R134 to R141) -/

/-- The mirror value (R141). -/
def State.mirrorValue (s : State) : Word :=
  let m := s.air.massage
  match m.state with
  | .fetching | .running =>
    match m.pattern with
    | some p => bytes m.intensity (p.val + 1)
    | none => 0
  | .ending =>
    match m.pendingStart with
    | some (p, i) => bytes i (p.val + 1)
    | none => 0
  | .off => 0

/-- The mirror value may have changed from `before`. -/
def Ev.mirrorFrom (e : Ev) (before : Word) : Ev :=
  if e.mirrorValue == before then e else e.tell .massageMirror

/-- A mirror write of the present value is offered unless memory holds it already or one is in flight
(R141). -/
def Ev.mirrorMassage (e : Ev) : Ev :=
  let m := e.air.massage
  let v := e.mirrorValue
  if m.mirrorNow.isSome || m.mirrorKnown == v then e
  else
    (e.setMassage { m with mirrorNow := some v, mirrorKnown := v }).offerWrite .massageMirror
      (slotAddr e.conf .massage) v false

/-- A mirror write of SEAT MASSAGE completes (R141). -/
def Ev.mirrorMassageDone (e : Ev) : Ev :=
  match e.air.massage.mirrorNow with
  | none => e
  | some v => (e.setMassage { e.air.massage with mirrorNow := none, mirrorKnown := v }).mirrorMassage

/-- The address of word `k` of the pattern record being fetched. -/
def State.patternAddr (s : State) (p : Fin 8) (k : Nat) : Addr :=
  regionAddr s.conf .air (64 + 96 * p.val + k)

/-- A fetch begins: the buffer is emptied and the header is read (R135). -/
def Ev.beginFetch (e : Ev) (p : Fin 8) : Ev :=
  (e.setMassage { e.air.massage with buffer := [] }).offerRead .patternFetch (e.patternAddr p 0)

/-- A fetch is abandoned: the value of a read in flight will be discarded (R135). -/
def Ev.abandonFetch (e : Ev) : Ev :=
  if e.air.massage.state == .fetching then
    { e with ins := e.ins.discard (fun c => c.purpose == .patternFetch) }
  else e

/-- The step count of the pattern in the buffer. -/
def patternSteps (ws : List Word) : Nat := field (ws.getD 0 0) 0 5

/-- Word `k` of step `s` of the buffer. -/
def stepWord (ws : List Word) (s k : Nat) : Word := ws.getD (1 + 4 * s + k) 0

/-- The chambers of a step's set. -/
def stepSet (w : Word) : List (Fin 12) := allChambers.filter (fun c => w.getLsbD c.val)

/-- A step passes line 4 of the pattern check (R134). -/
def State.stepValid (s : State) (ws : List Word) (n : Nat) : Bool :=
  let set := stepSet (stepWord ws n 0)
  decide (1 ≤ set.length) && decide (set.length ≤ 4) &&
    set.all (fun c => !(s.chamberConf c).fitted || (s.chamberConf c).role != .posture) &&
    decide (1 ≤ hi (stepWord ws n 1))

/-- The check of a pattern: none, or the reason and the step (R134). -/
def State.patternFailure (s : State) (ws : List Word) : Option (Nat × Nat) :=
  let n := patternSteps ws
  if n == 0 || decide (20 < n) then some (1, 0)
  else if ws.getD (4 * n) 0 != checkWord tagPattern (ws.take (4 * n)) then some (2, 0)
  else if 1 < field (ws.getD 0 0) 5 3 then some (3, 0)
  else
    match (List.range n).find? (fun k => !s.stepValid ws k) with
    | some k => some (4, k)
    | none => none

/-- The step target (R138). -/
def stepTarget (steep : Bool) (m l i : Nat) : Nat := if steep then m * l * l * i / 325125 else m * l * i / 1275

/-- A chamber is taken into a step (R138). -/
def Ev.takeIntoStep (e : Ev) (c : Fin 12) : Ev :=
  let x := e.air.chambers[c]
  if x.owner == .posture then
    let e := (e.sealHere c).slotOver c
    e.setChamber c { e.air.chambers[c] with owner := .massage, borrowed := true, returning := false,
                                            settlePending := false }
  else e.setChamber c { x with owner := .massage, returning := false }

/-- The chambers of the present step that massage still holds for it. -/
def State.stepChambers (s : State) : List (Fin 12) :=
  let m := s.air.massage
  (stepSet (stepWord m.buffer m.step 0)).filter (fun c =>
    (s.chamberConf c).fitted && s.air.chambers[c].owner == .massage && !s.air.chambers[c].returning)

/-- The chambers of the step are sealed where they stand. -/
def Ev.sealStep (e : Ev) : Ev :=
  e.stepChambers.foldl (fun e c => if e.air.chambers[c].moving then e.sealHere c else e) e

/-- A borrowed chamber begins its return (R139, R140). -/
def Ev.beginReturn (e : Ev) (c : Fin 12) : Ev :=
  let x := e.air.chambers[c]
  (e.setChamber c { x with returning := true }).settle c (x.posture.getD 0)

/-- HOLD begins (R139). -/
def Ev.beginHold (e : Ev) : Ev :=
  let m := e.air.massage
  e.setMassage { m with phase := some .hold, riseLeft := [],
                        phaseAt := some (e.now + ms (100 * hi (stepWord m.buffer m.step 2))) }

/-- A step begins (R138, R139). -/
def Ev.beginStep (e : Ev) (n : Nat) : Ev :=
  let m := e.air.massage
  let w := stepWord m.buffer n 1
  let chambers := (stepSet (stepWord m.buffer n 0)).filter (fun c =>
    (e.chamberConf c).fitted && e.air.chambers[c].state != .fault && e.air.chambers[c].owner != .crash)
  let e := chambers.foldl Ev.takeIntoStep e
  let e := e.setMassage { m with step := n, phase := some .rise, riseLeft := chambers,
                                 phaseAt := some (e.now + ms (100 * lo w)) }
  let steep := field (m.buffer.getD 0 0) 5 3 == 1
  let e := chambers.foldl
    (fun e c => e.settle c (stepTarget steep (e.chamberConf c).maxPressure (hi w) m.intensity)) e
  if lo w == 0 then e.sealStep.beginHold else e

/-- Massage enters ENDING (R140). -/
def Ev.enterEnding (e : Ev) (next : Option (Fin 8 × Nat)) : Ev :=
  let e := e.setMassage { e.air.massage with state := .ending, phase := none, phaseAt := none,
                                             sessionAt := none, riseLeft := [], pendingStart := next }
  let e := allChambers.foldl (fun e c =>
    if e.air.chambers[c].owner != .massage then e
    else if e.air.chambers[c].borrowed then e.beginReturn c
    else e.settle c 0) e
  e.tell .massageStep

/-- The step ends; the next begins, or the pass or the massage ends (R140). Under a repeat count of 0 the passes stay at
255 (log entry 35). -/
def Ev.endStep (e : Ev) : Ev :=
  let m := e.air.massage
  if m.step + 1 < patternSteps m.buffer then e.beginStep (m.step + 1)
  else
    let passes := min 255 (m.passes + 1)
    let times := hi (m.buffer.getD 0 0)
    let e := e.setMassage { m with passes := passes }
    if times == 0 || decide (passes < times) then e.beginStep 0 else e.enterEnding none

/-- FALL begins (R139): the vent valves of the step's MASSAGE chambers open, also for a massage that a queued recall (R99,
R102) started in PULLING, HOLDING or LOCKED: DESIGN CHOICE, since R129 defers settles alone and R144 is silent on a FALL
(log entry 35). -/
def Ev.beginFall (e : Ev) : Ev :=
  let m := e.air.massage
  let time := lo (stepWord m.buffer m.step 2)
  let chambers := e.stepChambers
  let e := e.setMassage { m with phase := some .fall, phaseAt := some (e.now + ms (100 * time)) }
  let e := chambers.foldl (fun e c =>
    let x := e.air.chambers[c]
    if x.borrowed then e.beginReturn c
    else if time == 0 then e
    else (e.setChamber c ({ x with target := some 0, protective := false }.enter .venting)).tell .pump) e
  if time == 0 then e.endStep else e

/-- The rise ends with every chamber done, or at the expiry of its timer (R139). -/
def Ev.endRise (e : Ev) : Ev :=
  let m := e.air.massage
  if m.state == .running && m.phase == some .rise then e.sealStep.beginHold else e

/-- The phase timer expires (R139); a massage that ends with it changes the mirror value (R141). -/
def Ev.phaseExpiry (e : Ev) : Ev :=
  let before := e.mirrorValue
  let e := match e.air.massage.phaseAt, e.air.massage.phase with
    | some t, some .rise => (e.due t).endRise
    | some t, some .hold => (e.due t).beginFall
    | some t, some .fall => (e.due t).sealStep.endStep
    | _, _ => e
  e.mirrorFrom before

/-- A massage start (R137). -/
def Ev.massageStart (e : Ev) (p : Fin 8) (i : Nat) : Ev :=
  let before := e.mirrorValue
  let m := { e.air.massage with lastPattern := p, lastIntensity := i }
  let e := e.setMassage m
  let e := match m.state with
    | .off => (e.setMassage { m with pattern := some p, intensity := i, state := .fetching }).beginFetch p
    | .fetching =>
      if m.pattern == some p then e.setMassage { m with intensity := i }
      else (e.abandonFetch.setMassage { m with pattern := some p, intensity := i }).beginFetch p
    | .running =>
      if m.pattern == some p then e.setMassage { m with intensity := i } else e.enterEnding (some (p, i))
    | .ending => e.setMassage { m with pendingStart := some (p, i) }
  e.mirrorFrom before

/-- A massage stop (R137). -/
def Ev.massageStop (e : Ev) : Ev :=
  let before := e.mirrorValue
  let m := e.air.massage
  let e := match m.state with
    | .off => e
    | .fetching => e.abandonFetch.setMassage { m with state := .off }
    | .running => e.enterEnding none
    | .ending => e.setMassage { m with pendingStart := none }
  e.mirrorFrom before

/-- ENDING reaches OFF when no chamber has owner MASSAGE; a pending start is then taken (R137, R140). -/
def Ev.massageStep (e : Ev) : Ev :=
  let m := e.air.massage
  if m.state == .ending && !e.air.chambers.toList.any (fun x => x.owner == .massage) then
    let before := e.mirrorValue
    let e := e.setMassage { m with state := .off, pendingStart := none }
    let e := match m.pendingStart with
      | some (p, i) => e.massageStart p i
      | none => e
    e.mirrorFrom before
  else e

/-- The session timer expires (R140). -/
def Ev.sessionExpiry (e : Ev) : Ev :=
  match e.air.massage.sessionAt with
  | none => e
  | some t =>
    let e := e.due t
    let before := e.mirrorValue
    if e.air.massage.state == .running then (e.enterEnding none).mirrorFrom before else e

/-- A fetch has succeeded: massage enters RUNNING (R137). A MASSAGE chamber still returning under owner CRASH keeps that
owner; once its return has ended, the next step that names it takes it (log entry 35). -/
def Ev.enterRunning (e : Ev) : Ev :=
  let e := e.setMassage { e.air.massage with
    state := .running, passes := 0, sessionAt := some (e.now + ms (60000 * e.conf.massageSession)) }
  let e := allChambers.foldl (fun e c =>
    let x := e.air.chambers[c]
    let k := e.chamberConf c
    if k.fitted && k.role == .massage && x.state != .fault && x.owner != .crash then
      e.setChamber c { x with owner := .massage }
    else e) e
  e.beginStep 0

/-- A word of a pattern fetch (R135). -/
def Ev.fetchWord (e : Ev) (w : Word) : Ev :=
  let m := e.air.massage
  match m.state, m.pattern with
  | .fetching, some p =>
    let before := e.mirrorValue
    let ws := m.buffer ++ [w]
    let n := patternSteps ws
    let e := e.setMassage { m with buffer := ws }
    if 1 ≤ n && n ≤ 20 && ws.length < 1 + 4 * n then e.offerRead .patternFetch (e.patternAddr p ws.length)
    else
      match e.patternFailure ws with
      | none => e.enterRunning
      | some (reason, step) =>
        let e := e.setMassage { e.air.massage with state := .off }
        (e.hand .patternInvalid (toWord (p.val + 1)) (bytes reason step)).mirrorFrom before
  | _, _ => e

/-! ## Answers to the crash controller (R142 to R144) -/

/-- Massage goes to OFF at once: the fetch is abandoned and the timers stop. -/
def Ev.massageOff (e : Ev) : Ev :=
  let before := e.mirrorValue
  let e := e.abandonFetch
  let e := e.setMassage { e.air.massage with state := .off, phase := none, phaseAt := none,
                                             sessionAt := none, pendingStart := none, riseLeft := [] }
  e.mirrorFrom before

/-- A chamber of owner MASSAGE gives way to a crash hold: step 1 of R142. In LOCKED a MASSAGE chamber is sealed
with settle pending (R144). A borrowed chamber keeps its fill time, also where it was given a new posture value while
lent (log entry 35). -/
def Ev.crashUnmassage (e : Ev) (c : Fin 12) : Ev :=
  let x := e.air.chambers[c]
  if x.owner != .massage then e
  else if x.borrowed then
    e.setChamber c { x.enter .sealed with owner := .posture, borrowed := false, returning := false,
                                          target := x.posture, settlePending := true }
  else if e.crash.state == .locked then
    e.setChamber c { x.enter .sealed with owner := .none, target := some 0, settlePending := true }
  else (e.setChamber c { x with owner := .none }).settleNow c 0

/-- A chamber's crash action at PULL (steps 2 and 3 of R142). A chamber still returning under owner CRASH that has no crash
role any more goes on returning in PULLING: DESIGN CHOICE, since R142 is silent on it (log entry 35). -/
def Ev.crashTake (e : Ev) (c : Fin 12) : Ev :=
  let k := e.chamberConf c
  if e.crashChamber c && e.air.chambers[c].state != .fault then
    let e := e.slotOver c
    let x := { e.air.chambers[c] with owner := .crash, returning := false, settlePending := false,
                                      fillOnly := k.crashRole == .inflate }
    (e.setChamber c x).settleNow c (if k.crashRole == .inflate then k.crashPressure else 0)
  else if e.air.chambers[c].state == .filling then e.setChamber c (e.air.chambers[c].enter .fillWait)
  else e

/-- The crash controller takes PULL (R142). -/
def Ev.airPull (e : Ev) : Ev :=
  let e := allChambers.foldl Ev.crashUnmassage e.massageOff
  let e := allChambers.foldl Ev.crashTake e
  let e := if isCrashLoad e.conf pumpClaimant then e.setPump (some .crash) true else e
  e.tell .pump

/-- HOLDING is entered (R143). -/
def Ev.airHolding (e : Ev) : Ev :=
  (allChambers.foldl (fun e c =>
    if e.air.chambers[c].owner == .crash && e.air.chambers[c].moving then e.sealHere c else e) e).tell .pump

/-- A chamber of owner CRASH returns to the snapshot's posture value (R143). -/
def Ev.crashReturn (e : Ev) (c : Fin 12) : Ev :=
  if e.air.chambers[c].owner == .crash then
    let x := e.air.chambers[c]
    let v := (e.crash.snapChambers[c]).getD x.posture
    (e.setChamber c { x with posture := v, fillOnly := false, returning := true }).settleNow c (v.getD 0)
  else e

/-- A deferred settle is made at the end of a crash hold (R129, R144). -/
def Ev.settleDeferred (e : Ev) (c : Fin 12) : Ev :=
  let x := e.air.chambers[c]
  if !x.settlePending then e
  else
    let e := e.setChamber c { x with settlePending := false }
    if x.state == .fault then e.setChamber c { e.air.chambers[c] with faultVent := !x.isEmpty }
    else
      match x.target with
      | some t => e.settleNow c t
      | none => e

/-- The crash hold ends: RESTORING is entered, or LOCKED is left (R143, R144). -/
def Ev.airUnhold (e : Ev) : Ev :=
  (allChambers.foldl Ev.settleDeferred (allChambers.foldl Ev.crashReturn e)).tell .pump

/-- One chamber on entering LOCKED (R144). -/
def Ev.lockChamber (e : Ev) (c : Fin 12) : Ev :=
  let x := e.air.chambers[c]
  if x.moving then e.setChamber c { x.enter .sealed with settlePending := true }
  else if x.state == .fault then e.setChamber c { x with faultVent := false, settlePending := true }
  else e

/-- LOCKED is entered: every valve closes (R144). -/
def Ev.airLock (e : Ev) : Ev :=
  let e := allChambers.foldl Ev.crashUnmassage e.massageOff
  (allChambers.foldl Ev.lockChamber e).tell .pump

/-! ## ACTIVE and a new configuration (R123, R145) -/

/-- A fitted chamber of role POSTURE or SHARED takes owner POSTURE (R123, R145). -/
def Ev.ownChamber (e : Ev) (c : Fin 12) : Ev :=
  if (e.chamberConf c).fitted then e.setChamber c { e.air.chambers[c] with owner := e.homeOwner c } else e

/-- The configuration unit enters ACTIVE (R123). -/
def Ev.airOpen (e : Ev) : Ev := allChambers.foldl Ev.ownChamber e

/-- A chamber of owner MASSAGE at the application of a configuration (R145): a borrowed one settles to its posture value
under the new maximum, its fill time kept. -/
def Ev.applyUnmassage (e : Ev) (c : Fin 12) : Ev :=
  let x := e.air.chambers[c]
  if x.owner != .massage then e
  else if x.borrowed then
    let e := e.setChamber c { x.enter .sealed with owner := .posture, borrowed := false, returning := false,
                                                   target := x.posture }
    match x.posture with
    | some v => e.settle c v
    | none => (e.slotOver c).tell .pump
  else (e.setChamber c { x with owner := .none }).settle c 0

/-- One chamber at the application of a configuration (R145); the configuration in force is already the new one. The slot
request of a chamber whose role changes is dropped without a neutral write, as R145 states for an unfitted one (log
entry 35). -/
def Ev.chamberApply (old : Conf) (e : Ev) (c : Fin 12) : Ev :=
  let was := old.chambers[c]
  let is := e.chamberConf c
  if !is.fitted then
    if was.fitted then e.setChamber c Chamber.reset else e
  else if !was.fitted || was.role != is.role then (e.setChamber c Chamber.reset).ownChamber c
  else
    let x := e.air.chambers[c]
    let cap := fun (v : Option Nat) => v.map (min is.maxPressure)
    e.setChamber c { x with posture := cap x.posture, target := cap x.target,
                            lowered := x.lowered || decide (is.maxPressure < was.maxPressure) }

/-- The chamber controller's answer to a new configuration (R145): the records first, so that a chamber that has become
unfitted makes no neutral write, and none settles above its new maximum. -/
def Ev.airApply (old : Conf) (e : Ev) : Ev :=
  let e := e.massageOff
  let e := e.setMassage { e.air.massage with buffer := [] }
  (allChambers.foldl Ev.applyUnmassage (allChambers.foldl (Ev.chamberApply old) e)).tell .pump

/-! ## The slots (R133, R141, R146) -/

/-- The answer of AIR TARGET (R133). -/
def State.airAnswer (s : State) (c : Fin 12) (v : Word) : Answer :=
  let k := s.chamberConf c
  if v != absent && (decide (k.maxPressure < v.toNat) || k.role == .massage) then .refused
  else if s.air.chambers[c].owner == .crash then .busy
  else .taken

/-- A taken write of AIR TARGET (R133). -/
def Ev.airTake (e : Ev) (c : Fin 12) (v : Word) : Ev :=
  if v == absent then e
  else
    let x := { e.air.chambers[c] with slotRequest := true }
    let x := if x.state == .fault then { x.enter .sealed with fault := .none, faultVent := false,
                                                              settlePending := false } else x
    (e.setChamber c x).postureRequest c v.toNat

/-- The intensity a MASSAGE value asks for: 0 means the last one (R141). -/
def State.askedIntensity (s : State) (v : Word) : Nat :=
  if hi v == 0 then s.air.massage.lastIntensity else hi v

/-- The value equals the mirror value (R141). -/
def State.sameMassage (s : State) (v : Word) : Bool :=
  v == s.mirrorValue || bytes (s.askedIntensity v) (lo v) == s.mirrorValue

/-- The answer of SEAT MASSAGE (R141). -/
def State.massageAnswer (s : State) (v : Word) : Answer :=
  if 8 < lo v || 5 < hi v then .refused
  else if s.air.massage.state == .fetching || s.air.massage.state == .ending then .busy
  else .taken

/-- A taken write of SEAT MASSAGE (R141); memory will hold the value written. -/
def Ev.massageTake (e : Ev) (v : Word) : Ev :=
  if e.sameMassage v then e
  else
    let i := e.askedIntensity v
    let e := e.setMassage { e.air.massage with mirrorKnown := v }
    match lo v with
    | 0 => e.massageStop
    | p + 1 => if hp : p < 8 then e.massageStart ⟨p, hp⟩ i else e

/-- Codes of section 11.3. -/
def chamberStateCode : ChamberState → Nat
  | .sealed => 0
  | .fillWait => 1
  | .filling => 2
  | .venting => 3
  | .fault => 4

def chamberOwnerCode : ChamberOwner → Nat
  | .none => 0
  | .posture => 1
  | .massage => 2
  | .crash => 3

def chamberFaultCode : ChamberFault → Nat
  | .none => 0
  | .leak => 1
  | .noRise => 2

/-- The PRESSURE slot (R146). -/
def Chamber.pressureWord (x : Chamber) : Word :=
  match x.sample with
  | some v => toWord v
  | none => absent

/-- The STATE slot of a chamber (R146). -/
def Chamber.stateWord (x : Chamber) : Word :=
  toWord (chamberStateCode x.state + 16 * chamberOwnerCode x.owner + 64 * chamberFaultCode x.fault +
    256 * bit x.borrowed + 512 * bit x.returning + 1024 * bit x.settlePending)

end Sys2Proof.Machine
end

