-- ==== Sys2Proof/Machine/Axis.lean ====
section
/-! DEFINITION. The axis controller (03_seat_axes.md): the course of a move, requests and stops, hall edges,
thermal counts, shadows, and its answers to the crash controller and to a new configuration. -/

namespace Sys2Proof.Machine

/-- An axis record replaced within an event. -/
def Ev.setAxis (e : Ev) (i : Fin 8) (a : Axis) : Ev := { e with axes := e.axes.set i a }

/-- Priority of the movers, highest first (section 3.2). -/
def Mover.rank : Mover → Nat
  | .crash => 0
  | .restore => 1
  | .panel => 2
  | .recall => 3
  | .image => 4

/-- One mover is higher than another. -/
def Mover.above (a b : Mover) : Bool := decide (a.rank < b.rank)

/-- Mover codes, 0 for none (section 11.3). -/
def moverCode : Option Mover → Nat
  | none => 0
  | some m => m.rank + 1

/-- Stop cause codes, 0 for NONE (section 11.3). -/
def causeCode : Option StopCause → Nat
  | none => 0
  | some .reached => 1
  | some .stopRequest => 2
  | some .limit => 3
  | some .stall => 4
  | some .endStop => 5
  | some .pinch => 6
  | some .hallFault => 7
  | some .preempted => 8
  | some .armed => 9
  | some .config => 10
  | some .noPower => 11
  | some .supplyLow => 12
  | some .thermal => 13
  | some .crashTime => 14
  | some .locked => 15

/-! ## Goals (R48) -/

/-- The position of a goal of position kind. -/
def Goal.position : Goal → Option Nat
  | .target p => some p
  | .crashTo p => some p
  | .restoreTo p => some p
  | .jog _ | .home | .crashTime _ | .backOff _ | .restoreTime _ _ => none

/-- A CRASH goal. -/
def Goal.isCrash : Goal → Bool
  | .crashTo _ | .crashTime _ => true
  | .target _ | .jog _ | .home | .backOff _ | .restoreTo _ | .restoreTime _ _ => false

/-- Soft limits applied, on a referenced axis (R48). -/
def Goal.softLimits : Goal → Bool
  | .target _ | .jog _ | .backOff _ | .restoreTo _ => true
  | .home | .crashTo _ | .crashTime _ | .restoreTime _ _ => false

/-- Pinch detection per axis descriptor (R48). -/
def Goal.pinchable : Goal → Bool
  | .target _ | .jog _ | .restoreTo _ | .restoreTime _ _ => true
  | .home | .crashTo _ | .crashTime _ | .backOff _ => false

/-- Toward a position from a count. -/
def toward (p count : Nat) : Dir := if count < p then .upForward else .downBack

/-- The direction of a goal; a back-off leads opposite to the last direction. -/
def Goal.dir (g : Goal) (a : Axis) : Dir :=
  match g with
  | .target p | .crashTo p | .restoreTo p => toward p a.count
  | .jog d | .crashTime d | .restoreTime _ d => d
  | .home => .downBack
  | .backOff _ => a.lastDir.opp

/-- The duty of a goal (R48). -/
def Goal.duty (g : Goal) (a : Axis) : Nat :=
  match g with
  | .target _ | .restoreTo _ => a.duty
  | .jog _ => if a.referenced then a.duty else 40
  | .home => 40
  | .crashTo _ | .crashTime _ | .restoreTime _ _ => 100
  | .backOff _ => a.driveDuty

/-- Two goals of the same kind (R47). -/
def Goal.sameKind : Goal → Goal → Bool
  | .target _, .target _ => true
  | .jog _, .jog _ => true
  | .home, .home => true
  | .crashTo _, .crashTo _ => true
  | .crashTime _, .crashTime _ => true
  | .restoreTo _, .restoreTo _ => true
  | .restoreTime _ _, .restoreTime _ _ => true
  | _, _ => false

/-- The slot that sets an IMAGE goal: true for JOG, false for TARGET (R66). -/
def Goal.slot : Goal → Option Bool
  | .target _ => some false
  | .jog _ | .home => some true
  | .crashTo _ | .crashTime _ | .backOff _ | .restoreTo _ | .restoreTime _ _ => none

/-- A direction is one of the pinch directions of the descriptor. -/
def pinchHas (p : PinchDirs) (d : Dir) : Bool :=
  match p, d with
  | .both, _ => true
  | .upForward, .upForward => true
  | .downBack, .downBack => true
  | _, _ => false

/-- The count is at or beyond the soft limit in a direction. -/
def Axis.atLimit (a : Axis) (g : Goal) (d : Dir) : Bool :=
  a.referenced && g.softLimits &&
    (match d with
     | .upForward => decide (a.limitHi ≤ a.count)
     | .downBack => decide (a.count ≤ a.limitLo))

/-- Energised time of the move in microseconds; reports and accumulators carry it in ms, the part below 1 ms dropped (log
entry 31). -/
def Axis.energisedFor (a : Axis) (now : Nat) : Nat :=
  a.energised + (if a.drive.isSome then now - a.driveSince else 0)

/-- The drive goes off; the energised time and the timers of the drive stop. -/
def Axis.driveOff (a : Axis) (now : Nat) : Axis :=
  { a with energised := a.energisedFor now, drive := none, stallAt := none, blankAt := none }

/-! ## Reports (section 3.2, R66) -/

/-- The pending request of an axis was set by the host through JOG, or through TARGET. -/
def State.imageFollows (s : State) (i : Fin 8) (jog : Bool) : Bool :=
  match s.axes[i].pending with
  | some r => r.mover == .image && r.goal.slot == some jog
  | none => false

/-- The neutral write of the slot that set an IMAGE goal, unless the request that follows was set through the
same slot (R66). It is made for an axis that has become unfitted too: R73 excepts the parking writes alone. -/
def Ev.neutraliseImage (e : Ev) (i : Fin 8) (g : Goal) : Ev :=
  match g.slot with
  | none => e
  | some j =>
    if e.imageFollows i j then e
    else
      let c := if j then CSlot.axJog i else CSlot.axTarget i
      e.offerWrite (.axisNeutral i j) (slotAddr e.conf c) (e.neutralValue c) false

/-- An end report to the mover that asked. -/
def Ev.reportEnd (e : Ev) (i : Fin 8) (m : Mover) (g : Goal) (cause : StopCause) (onlyPending : Bool)
    (ms : Nat) (atOnce : Bool) : Ev :=
  let e := e.tell (.axisEnd i m cause onlyPending ms atOnce)
  if m == .image then e.neutraliseImage i g else e

/-- The pending request is removed or replaced by `next`; it has made no move (R47). -/
def Ev.replacePending (e : Ev) (i : Fin 8) (next : Option Request) (cause : StopCause) : Ev :=
  let a := e.axes[i]
  let e := e.setAxis i { a with pending := next }
  match a.pending with
  | some old => e.reportEnd i old.mover old.goal cause true 0 false
  | none => e

/-- The grant is released to the budget, or a waiting claim withdrawn. -/
def Ev.releaseAxis (e : Ev) (i : Fin 8) : Ev :=
  if e.axes[i].grant == .none then e
  else (e.setAxis i { e.axes[i] with grant := .none }).releaseClaim (axisClaimant i)

/-- The MOVE_END entry of a move that ended with another cause than REACHED (R55). -/
def Ev.moveEnd (e : Ev) (i : Fin 8) (m : Mover) (cause : StopCause) : Ev :=
  if cause == .reached then e
  else e.hand .moveEnd (bytes (m.rank + 1) i.val) (toWord (causeCode (some cause)))

/-- The goal in force ends: drive off, grant released, end report, last stop cause, MOVE_END (R55, R50).
`atOnce`: it ended at once without driving, REACHED at its position (R49, R172). The axis's state is left to the caller. -/
def Ev.endGoal (e : Ev) (i : Fin 8) (cause : StopCause) (atOnce : Bool) : Ev :=
  let a := e.axes[i]
  let owedMovers := match a.owed, a.mover with
    | some _, some m => if a.parkOwed.contains m then a.parkOwed else a.parkOwed ++ [m]
    | _, _ => a.parkOwed
  let a' := { a.driveOff e.now with goal := none, owed := none, deadAt := none, parkOwed := owedMovers,
                                    lastCause := if a.owed.isSome then some cause else a.lastCause,
                                    overheated := a.overheated || cause == .thermal }
  let e := (e.setAxis i a').releaseAxis i
  match a.owed, a.mover with
  | some g, some m =>
    (e.reportEnd i m g cause false (a.energisedFor e.now / 1000) atOnce).moveEnd i m cause
  | _, _ => e

/-- Words of the shadow (R62). -/
def Axis.shadowPos (a : Axis) : Word := if a.referenced then toWord a.count else absent
def Axis.shadowFlags (a : Axis) (moving : Bool) : Word := toWord (bit moving + 2 * bit a.referenced)

/-- Offer the MOVING marker write (R62). -/
def Ev.offerMarker (e : Ev) (i : Fin 8) (urgent : Bool) : Ev :=
  e.offerWrite (.marker i) (regionAddr e.conf .axis (16 * i.val + 10)) (e.axes[i].shadowFlags true) urgent

/-- Enter PARKING: the three shadow writes are offered (R56). -/
def Ev.enterParking (e : Ev) (i : Fin 8) : Ev :=
  let a := e.axes[i]
  let pos := a.shadowPos
  let flags := a.shadowFlags false
  let base := 16 * i.val
  let e := e.setAxis i { a with state := .parking, coastAt := none, deadAt := none, parkLeft := a.parkLeft + 3 }
  let e := e.offerWrite (.parking i) (regionAddr e.conf .axis (base + 9)) pos false
  let e := e.offerWrite (.parking i) (regionAddr e.conf .axis (base + 10)) flags false
  e.offerWrite (.parking i) (regionAddr e.conf .axis (base + 11)) (checkWord tagShadow [pos, flags]) false

/-- STOPPING with the coast window of 30 ms ahead (R55). -/
def Ev.coast (e : Ev) (i : Fin 8) : Ev :=
  e.setAxis i { e.axes[i] with state := .stopping, coastAt := some (e.now + ms 30) }

/-- The goal ends and the axis enters STOPPING with its coast window (R55). -/
def Ev.endMove (e : Ev) (i : Fin 8) (cause : StopCause) : Ev := (e.endGoal i cause false).coast i

/-- The goal ends and the axis enters PARKING without a coast (R49, R50, R72). -/
def Ev.endToPark (e : Ev) (i : Fin 8) (cause : StopCause) : Ev := (e.endGoal i cause false).enterParking i

/-- A position goal whose count is there already ends at once: REACHED, to PARKING without driving (R49). -/
def Ev.endThere (e : Ev) (i : Fin 8) : Ev := (e.endGoal i .reached true).enterParking i

/-! ## Starting (R49, R50) -/

/-- The drive is energised toward the goal (R50, R51); a position goal already at its count ends REACHED
without drive, not at once: its report is that of any move, and the parked report follows (log entry 16). -/
def Ev.energise (e : Ev) (i : Fin 8) : Ev :=
  let a := e.axes[i]
  match a.goal with
  | none => e
  | some g =>
    if g.position == some a.count then e.endToPark i .reached
    else
      let d := g.dir a
      e.setAxis i
        { a with state := .running, drive := some d, driveDuty := g.duty a, lastDir := d, energised := 0,
                 driveSince := e.now, stallAt := some (e.now + ms (e.axisConf i).stallWindow),
                 blankAt := some (e.now + ms 150), hallBase := none, currentBase := none,
                 lastEdge := none, lastPeriod := none, current := none, deadAt := none, coastAt := none }

/-- A start request taken in IDLE is examined (R49); a position goal on an unreferenced axis ends at once with
HALL_FAULT: R71 says so of RESTORE, and the model does so with a pending TARGET too (log entry 37). -/
def Ev.startIdle (e : Ev) (i : Fin 8) (r : Request) : Ev :=
  let a := { e.axes[i] with goal := some r.goal, owed := some r.goal, mover := some r.mover,
                            idleEdge := false, markerDone := false, energised := 0, current := none,
                            overheated := false, crashInBlocked := false }
  if r.goal.position.isSome && !a.referenced then (e.setAxis i a).endToPark i .hallFault
  else if r.goal.position == some a.count then (e.setAxis i a).endThere i
  else if a.atLimit r.goal (r.goal.dir a) then (e.setAxis i a).endToPark i .limit
  else
    let e := e.setAxis i { a with state := .starting, grant := .claimed }
    let w := if r.mover == .image || r.mover == .panel then WaitClass.limited2s else .unlimited
    (e.offerMarker i false).claim (axisClaimant i) .motion w

/-! ## Requests and stops (R46, R47) -/

/-- The owner of an axis (R46). -/
def State.axisOwner (s : State) (i : Fin 8) : Option Mover :=
  let a := s.axes[i]
  let m := if a.state == .idle || a.state == .blocked then none else a.mover
  match m, a.pending with
  | none, none => none
  | none, some r => some r.mover
  | some m, none => some m
  | some m, some r => if r.mover.above m then some r.mover else some m

/-- How a start request is answered. -/
inductive StartAnswer
  | started
  | kept
  | declined
  deriving DecidableEq, Repr

/-- The answer to a start request (R46, R61, R69, R72); CRASH requests are `Ev.crashRequest`. -/
def State.startAnswer (s : State) (i : Fin 8) (r : Request) : StartAnswer :=
  let a := s.axes[i]
  if !(s.axisConf i).fitted || s.crash.state == .locked then .declined
  else if (r.mover == .panel || r.mover == .recall) && s.crash.state == .armed && s.crashAxis i then .declined
  else if a.state == .blocked then (if r.mover == .restore then .kept else .declined)
  else if r.mover == .recall && r.goal.position.isSome && !a.referenced then .declined
  else
    match s.axisOwner i with
    | none => .started
    | some o =>
      if o.above r.mover then (if r.mover == .restore then .kept else .declined) else .started

/-- The pending request becomes `r`. A request of a lower mover that it replaces ends with PREEMPTED (R47), one
of the same mover with STOP_REQUEST (log entry 14). -/
def Ev.keepPending (e : Ev) (i : Fin 8) (r : Request) : Ev :=
  let cause := match e.axes[i].pending with
    | some old => if old.mover == r.mover then StopCause.stopRequest else .preempted
    | none => .preempted
  e.replacePending i (some r) cause

/-- A higher mover preempts (R47). -/
def Ev.preempt (e : Ev) (i : Fin 8) (r : Request) : Ev :=
  let e := e.keepPending i r
  match e.axes[i].state with
  | .running => e.endMove i .preempted
  | .starting => e.endToPark i .preempted
  | .idle | .stopping | .parking | .reversing | .blocked => e

/-- A request of the mover of the goal in force (R47). -/
def Ev.requestAgain (e : Ev) (i : Fin 8) (r : Request) : Ev :=
  let a := e.axes[i]
  match a.state, a.goal with
  | .running, some g =>
    if g.sameKind r.goal && r.goal.position == some a.count then
      (e.setAxis i { a with goal := some r.goal, owed := some r.goal }).endMove i .reached
    else if g.sameKind r.goal && a.drive == some (r.goal.dir a) then
      e.setAxis i { a with goal := some r.goal, owed := some r.goal }
    else (e.keepPending i r).endMove i .stopRequest
  | .starting, some g =>
    let e := e.setAxis i { a with goal := some r.goal, owed := some r.goal }
    if r.mover == .image && g.slot != r.goal.slot then e.neutraliseImage i g else e
  | _, _ => e.keepPending i r

/-- A start request of a mover other than CRASH. -/
def Ev.startRequest (e : Ev) (i : Fin 8) (r : Request) : Ev :=
  match e.startAnswer i r with
  | .declined => e
  | .kept => e.keepPending i r
  | .started =>
    match e.axisOwner i with
    | none => e.startIdle i r
    | some o =>
      if r.mover.above o then e.preempt i r
      else if e.axes[i].mover == some r.mover then e.requestAgain i r
      else e.keepPending i r

/-- A stop request names a mover (R47). -/
def Ev.stopRequest (e : Ev) (i : Fin 8) (m : Mover) : Ev :=
  let e := match e.axes[i].pending with
    | some r => if r.mover == m then e.replacePending i none .stopRequest else e
    | none => e
  if e.axes[i].mover == some m then
    match e.axes[i].state with
    | .running => e.endMove i .stopRequest
    | .starting => e.endToPark i .stopRequest
    | .idle | .stopping | .parking | .reversing | .blocked => e
  else e

/-! ## Position (R57, R58) -/

/-- The axis becomes unreferenced; a goal of position kind in force ends with HALL_FAULT (R58). -/
def Ev.unreference (e : Ev) (i : Fin 8) : Ev :=
  let e := e.setAxis i { e.axes[i] with referenced := false }
  match e.axes[i].goal.bind Goal.position with
  | some _ => e.endMove i .hallFault
  | none => e

/-- An edge would take a referenced count beyond 0 to stroke (R57). -/
def State.outOfRange (s : State) (i : Fin 8) (d : Dir) : Bool :=
  let a := s.axes[i]
  a.referenced && a.goal != some .home &&
    (match d with
     | .upForward => decide ((s.axisConf i).stroke ≤ a.count)
     | .downBack => a.count == 0)

/-- The count after an edge: held at 0 and stroke while referenced, wrapping at 65536 otherwise. -/
def Axis.counted (a : Axis) (stroke : Nat) (d : Dir) : Nat :=
  match d with
  | .upForward =>
    if a.referenced then (if a.count < stroke then a.count + 1 else a.count) else (a.count + 1) % 65536
  | .downBack => if a.referenced then a.count - 1 else (a.count + 65535) % 65536

/-- Pinch detection is on for the move (R48, R53). -/
def State.pinchOn (s : State) (i : Fin 8) : Bool :=
  match s.axes[i].goal, s.axes[i].drive with
  | some g, some d => g.pinchable && pinchHas (s.axisConf i).pinchDirs d && s.axes[i].state == .running
  | _, _ => false

/-- A pinch is detected: REVERSING, drive off, grant kept, 20 ms dead time (R54). -/
def Ev.enterReversing (e : Ev) (i : Fin 8) : Ev :=
  let a := e.axes[i].driveOff e.now
  e.setAxis i { a with state := .reversing, goal := none, deadAt := some (e.now + ms 20),
                       hallBase := none, currentBase := none }

/-- The pinch checks are being made: blanking is over and both baselines are known (R53). -/
def State.pinchChecks (s : State) (i : Fin 8) : Bool :=
  s.pinchOn i && s.axes[i].blankAt.isNone && s.axes[i].hallBase.isSome && s.axes[i].currentBase.isSome

/-- A goal of position kind is reached in the direction driven (R51). -/
def Axis.reachedBy (a : Axis) (d : Dir) : Bool :=
  match a.goal.bind Goal.position with
  | none => false
  | some p =>
    match d with
    | .upForward => decide (p ≤ a.count)
    | .downBack => decide (a.count ≤ p)

/-- What an edge does in RUNNING: goal, soft limit, period check, first baseline (R51, R53). -/
def Ev.edgeRunning (e : Ev) (i : Fin 8) (d : Dir) (period : Option Nat) : Ev :=
  let a := e.axes[i]
  match a.goal with
  | none => e
  | some g =>
    if a.reachedBy d then e.endMove i .reached
    else if a.atLimit g d then e.endMove i .limit
    else if e.pinchOn i && a.blankAt.isNone then
      match a.hallBase, period with
      | none, some t => e.setAxis i { a with hallBase := some t }
      | some b, some t =>
        if a.currentBase.isSome && decide (3 * b < 2 * t) then e.enterReversing i else e
      | _, none => e
    else e

/-- What an edge does during a back-off (R54). -/
def Ev.edgeBackOff (e : Ev) (i : Fin 8) (d : Dir) : Ev :=
  let a := { e.axes[i] with backLeft := e.axes[i].backLeft - 1 }
  let e := e.setAxis i a
  if a.backLeft == 0 then e.endMove i .pinch
  else
    match a.goal with
    | some g => if a.atLimit g d then e.endMove i .pinch else e
    | none => e

/-- The edge of a driven axis: stall timer and edge times, then the goal's checks. -/
def Ev.edgeDriven (e : Ev) (i : Fin 8) : Ev :=
  let a := e.axes[i]
  match a.drive with
  | none => e
  | some d =>
    let period := a.lastEdge.map (fun t => e.now - t)
    let e := e.setAxis i { a with lastEdge := some e.now, lastPeriod := period.or a.lastPeriod,
                                  stallAt := some (e.now + ms (e.axisConf i).stallWindow) }
    match a.state with
    | .running => e.edgeRunning i d period
    | .reversing => e.edgeBackOff i d
    | .idle | .starting | .stopping | .parking | .blocked => e

/-- The unexpected edge of an idle period (R57). -/
def Ev.edgeIdle (e : Ev) (i : Fin 8) : Ev :=
  let a := e.axes[i]
  if (a.state == .idle || a.state == .blocked) && !a.idleEdge then
    (e.setAxis i { a with idleEdge := true }).hand .hallUnexpected (toWord i.val) (toWord a.count)
  else e

/-- A hall edge (R57). -/
def Ev.hallEdge (e : Ev) (i : Fin 8) : Ev :=
  if !(e.axisConf i).fitted then e
  else
    let a := e.axes[i]
    let d := a.drive.getD a.lastDir
    let e :=
      if e.outOfRange i d then (e.hand .hallRange (toWord i.val) (toWord a.count)).unreference i
      else e.setAxis i { a with count := a.counted (e.axisConf i).stroke d }
    (e.edgeIdle i).edgeDriven i

/-! ## Timers and samples of a move -/

/-- A motor current sample (R45, R53). -/
def Ev.motorSample (e : Ev) (i : Fin 8) (v : Word) : Ev :=
  let e := { e with meas := { e.meas with motor := e.meas.motor.set i (some v) } }
  if !(e.axisConf i).fitted || e.axes[i].drive.isNone then e
  else
    let e := e.setAxis i { e.axes[i] with current := some v.toNat }
    match e.axes[i].currentBase with
    | some b =>
      if e.pinchChecks i && decide (b + (e.axisConf i).pinchThreshold < v.toNat) then e.enterReversing i
      else e
    | none => e

/-- 150 ms after energising: the baselines are taken (R53). -/
def Ev.blankingEnd (e : Ev) (i : Fin 8) : Ev :=
  match e.axes[i].blankAt with
  | none => e
  | some t =>
    let e := e.due t
    let a := { e.axes[i] with blankAt := none }
    if e.pinchOn i then
      e.setAxis i { a with currentBase := a.current, hallBase := a.lastPeriod,
                           lastEdge := if a.lastPeriod.isNone then none else a.lastEdge }
    else e.setAxis i a

/-- The time since the last edge passes 1.5 times the hall period baseline (R53). -/
def Ev.hallTimeout (e : Ev) (i : Fin 8) : Ev :=
  match e.axes[i].hallBase, e.axes[i].lastEdge with
  | some b, some t => if e.pinchChecks i then (e.due (t + b * 3 / 2 + 1)).enterReversing i else e
  | _, _ => e

/-- An END_STOP references the axis at count 0 with default limits (R58). -/
def Ev.referenceAtEnd (e : Ev) (i : Fin 8) : Ev :=
  e.setAxis i { e.axes[i] with referenced := true, count := 0, limitLo := 40,
                               limitHi := (e.axisConf i).stroke - 40 }

/-- HALL_FAULT: the axis becomes unreferenced, a FAULT entry is made and the move ends (R52). -/
def Ev.hallFault (e : Ev) (i : Fin 8) : Ev :=
  let a := e.axes[i]
  let e := e.hand .hallFault (toWord i.val) (toWord a.count)
  (e.setAxis i { e.axes[i] with referenced := false }).endMove i .hallFault

/-- A stall window has passed with no edge (R52). -/
def Ev.stallExpiry (e : Ev) (i : Fin 8) : Ev :=
  match e.axes[i].stallAt with
  | none => e
  | some t =>
    let e := e.due t
    let a := e.axes[i]
    let above := match a.current with
      | some c => decide ((e.axisConf i).current < c)
      | none => false
    match a.goal with
    | some .home => if above then (e.referenceAtEnd i).endMove i .endStop else e.hallFault i
    | some (.backOff _) =>
      if above then e.endMove i .pinch
      else (e.setAxis i { a with referenced := false }).endMove i .pinch
    | some _ => if above then e.endMove i .stall else e.hallFault i
    | none => e

/-- The reversal dead time ends (R54). -/
def Ev.reversalEnd (e : Ev) (i : Fin 8) : Ev :=
  match e.axes[i].state, e.axes[i].deadAt with
  | .reversing, some t =>
    let e := e.due t
    let a := e.axes[i]
    let n := (e.axisConf i).backOff
    if n == 0 then e.endMove i .pinch
    else
      let d := a.lastDir.opp
      e.setAxis i { a with goal := some (.backOff n), drive := some d, lastDir := d, driveSince := e.now,
                           backLeft := n, deadAt := none,
                           stallAt := some (e.now + ms (e.axisConf i).stallWindow) }
  | _, _ => e

/-- The coast window ends: PARKING (R55). -/
def Ev.coastEnd (e : Ev) (i : Fin 8) : Ev :=
  match e.axes[i].coastAt with
  | some t => (e.due t).enterParking i
  | none => e

/-- The dead time of a CRASH request ends (R70). -/
def Ev.crashDeadEnd (e : Ev) (i : Fin 8) : Ev :=
  match e.axes[i].state, e.axes[i].deadAt with
  | .starting, some t => (e.due t).energise i
  | _, _ => e

/-- A RESTORE(time) move reaches its energised time (R51). -/
def Ev.restoreTime (e : Ev) (i : Fin 8) : Ev :=
  let a := e.axes[i]
  match a.goal, a.state with
  | some (.restoreTime t _), .running =>
    (e.due (a.driveSince + (ms t - a.energised))).endMove i .reached
  | _, _ => e

/-- The drive is energised, or the axis is in its reversal dead time (R60). -/
def Axis.warming (a : Axis) : Bool := a.drive.isSome || a.state == .reversing

/-- 10 ms of energised time, which may be full as the drive goes off for the reversal dead time (R60). -/
def Ev.thermalRise (e : Ev) (i : Fin 8) : Ev :=
  let a := e.axes[i]
  if !(e.axisConf i).fitted || !a.warming then e
  else
    let n := min 65535 (a.thermal + (e.axisConf i).current)
    let hot := decide ((e.axisConf i).thermalLimit ≤ n)
    let e := e.setAxis i { a with thermal := n, overheated := a.overheated || hot }
    if hot && a.mover != some .crash then e.endMove i .thermal else e

/-- An axis starts its pending request on entry to IDLE (R49, R56, R61). -/
def Ev.startPending (e : Ev) (i : Fin 8) : Ev :=
  match e.axes[i].state, e.axes[i].pending with
  | .idle, some r => (e.setAxis i { e.axes[i] with pending := none }).startIdle i r
  | _, _ => e

/-- Half the thermal limit, rounded down (R61). -/
def State.halfLimit (s : State) (i : Fin 8) : Nat := (s.axisConf i).thermalLimit / 2

/-- A BLOCKED axis whose count is at or below half its limit goes to IDLE (R61). -/
def Ev.unblock (e : Ev) (i : Fin 8) : Ev :=
  let a := e.axes[i]
  if a.state == .blocked && decide (a.thermal ≤ e.halfLimit i) then
    (e.setAxis i { a with state := .idle, idleEdge := false }).startPending i
  else e

/-- 100 ms have passed for the thermal count (R60). -/
def Ev.thermalFall (e : Ev) (i : Fin 8) : Ev :=
  let a := e.axes[i]
  if !(e.axisConf i).fitted || a.thermal == 0 then e
  else (e.setAxis i { a with thermal := a.thermal - 1 }).unblock i

/-- The end of parking: IDLE or BLOCKED, parked reports, the pending request (R56, R61). -/
def Ev.parked (e : Ev) (i : Fin 8) : Ev :=
  let a := e.axes[i]
  let blocked := a.overheated || (a.crashInBlocked && decide (e.halfLimit i < a.thermal))
  let e := e.setAxis i { a with state := if blocked then .blocked else .idle, mover := none, goal := none,
                                owed := none, parkOwed := [], overheated := false,
                                crashInBlocked := false, idleEdge := false }
  let e := a.parkOwed.foldl (fun e m => e.tell (.axisParked i m)) e
  (e.startPending i).unblock i

/-- The crash markers still owed after one more shadow write has completed (R70). -/
def Axis.markersLeft (a : Axis) : List Nat := (a.markerOwed.map (· - 1)).filter (· != 0)

/-- The shadow write that completes is the last one that a crash marker waits for (R70). -/
def Axis.markerDue (a : Axis) : Bool := a.markerOwed.any (· ≤ 1)

/-- A shadow parking write completes (R56). The crash marker owed to a CRASH request taken in PARKING is offered with the
last of the writes that were offered before it, also where the axis has parked again meanwhile (R70; log entry 18). -/
def Ev.parkingWritten (e : Ev) (i : Fin 8) : Ev :=
  let a := e.axes[i]
  let e := e.setAxis i { a with parkLeft := a.parkLeft - 1, markerOwed := a.markersLeft }
  let e := if a.markerDue then e.offerMarker i true else e
  if a.state == .parking && decide (a.parkLeft ≤ 1) then e.parked i else e

/-- A MOVING marker write completes (R50). -/
def Ev.markerWritten (e : Ev) (i : Fin 8) : Ev :=
  let a := e.axes[i]
  if a.state == .starting && a.mover != some .crash then
    let e := e.setAxis i { a with markerDone := true }
    if a.grant == .held then e.energise i else e
  else e

/-! ## The budget's answers (R50, R55, R81, R82, R87) -/

/-- The budget tells the axis its decision. -/
def Ev.axisTold (e : Ev) (i : Fin 8) (o : Told) : Ev :=
  let a := e.axes[i]
  match o with
  | .granted =>
    if a.grant == .claimed && e.budget.table[axisClaimant i].state == .granted then
      let e := e.setAxis i { a with grant := .held }
      if a.state == .starting && a.markerDone && a.mover != some .crash then e.energise i else e
    else e
  | .shed | .revoked | .refused =>
    if a.grant == .none || e.budget.table[axisClaimant i].state != .none then e
    else
      let cause := match o with
        | .shed => StopCause.supplyLow
        | .refused => .noPower
        | .granted | .revoked => .preempted
      let e := e.setAxis i { a with grant := .none }
      match a.state with
      | .running | .reversing => e.endMove i cause
      | .starting => e.endToPark i cause
      | .idle | .stopping | .parking | .blocked => e

/-- The sheds of axes among what is to be told reach their axes now: the shed is taken before what follows in the same
event, so that a goal ends with SUPPLY_LOW (R83, R90). -/
def Ev.axesShed (e : Ev) : Ev :=
  allAxes.foldl (fun e i =>
    let x := Sig.told (axisClaimant i) .shed
    if e.sigs.contains x then { e with sigs := e.sigs.filter (· != x) }.axisTold i .shed else e) e

/-! ## Answers to the crash controller (R70, R72) -/

/-- A goal of another mover ends with PREEMPTED when a CRASH request is taken; the drive and the grant are left
as they are (R70). -/
def Ev.preemptForCrash (e : Ev) (i : Fin 8) : Ev :=
  let a := e.axes[i]
  match a.owed, a.mover with
  | some g, some m =>
    let e := e.setAxis i { a with goal := none, owed := none, lastCause := some .preempted,
                                  parkOwed := if a.parkOwed.contains m then a.parkOwed
                                              else a.parkOwed ++ [m] }
    (e.reportEnd i m g .preempted false (a.energisedFor e.now / 1000) false).moveEnd i m .preempted
  | _, _ => e

/-- The axis took the CRASH request RUNNING in the direction of the goal (R70, R172). -/
def State.drivesOn (s : State) (i : Fin 8) (g : Goal) : Bool :=
  s.axes[i].state == .running && s.axes[i].drive == some (g.dir s.axes[i]) && g.position != some s.axes[i].count

/-- A CRASH goal whose count is there already ends at once: REACHED, the crash grant released, and no drive, marker or dead
time (R70, R171). `a` is the axis with the goal taken; its drive is off. Its state is left to the caller. -/
def Ev.crashThere (e : Ev) (i : Fin 8) (a : Axis) : Ev :=
  let e := e.setAxis i { a with goal := none, owed := none, lastCause := some .reached, deadAt := none }
  (e.releaseAxis i).tell (.axisEnd i .crash .reached false 0 true)

/-- STARTING for the dead time of a CRASH request, the drive off (R70). -/
def Ev.crashDead (e : Ev) (i : Fin 8) (a : Axis) : Ev :=
  e.setAxis i { a.driveOff e.now with state := .starting, deadAt := some (e.now + ms 20), coastAt := none, energised := 0 }

/-- A CRASH request, taken in every state of a fitted axis (R70). The budget has granted the claim. An axis at its crash
target ends it REACHED at once (R171): without driving, but where the drive is on and goes off with it. An axis found
STOPPING completes its coast window then, and one found REVERSING begins one (log entry 16). -/
def Ev.crashRequest (e : Ev) (i : Fin 8) (g : Goal) : Ev :=
  let before := e.axes[i]
  let e := (e.replacePending i none .preempted).preemptForCrash i
  let a := { e.axes[i] with mover := some .crash, goal := some g, owed := some g, grant := .held }
  let there := g.position == some a.count
  match before.state with
  | .idle | .blocked =>
    if there then e.crashThere i { a with mover := none }
    else
      let e := e.setAxis i { a with idleEdge := false, overheated := false,
                                    crashInBlocked := before.state == .blocked }
      (e.energise i).offerMarker i true
  | .starting =>
    if there then (e.crashThere i a).enterParking i
    else ((e.setAxis i a).energise i).offerMarker i true
  | .running =>
    if there then (e.setAxis i a).endMove i .reached
    else if a.drive == some (g.dir a) then e.setAxis i { a with driveDuty := 100 }
    else e.crashDead i a
  | .reversing =>
    if there then
      if a.drive.isSome then (e.setAxis i a).endMove i .reached else (e.crashThere i a).coast i
    else e.crashDead i a
  | .stopping =>
    if there then e.crashThere i a else (e.crashDead i a).offerMarker i true
  | .parking =>
    if there then e.crashThere i a
    else ((e.setAxis i { a with markerOwed := a.markerOwed ++ [a.parkLeft] }).energise i)

/-- The crash controller stops a non-crash axis at PULL (R171): its goal and its pending request end with
PREEMPTED. -/
def Ev.crashStop (e : Ev) (i : Fin 8) : Ev :=
  let e := e.replacePending i none .preempted
  match e.axes[i].state with
  | .running | .reversing => e.endMove i .preempted
  | .starting => e.endToPark i .preempted
  | .idle | .stopping | .parking | .blocked => e

/-- The pull time limit expires for a crash leg still requested (R70, R172). -/
def Ev.crashTimeUp (e : Ev) (i : Fin 8) : Ev :=
  if e.axes[i].mover == some .crash then
    match e.axes[i].state with
    | .running => e.endMove i .crashTime
    | .starting => e.endToPark i .crashTime
    | .idle | .stopping | .parking | .reversing | .blocked => e
  else e

/-- A mover that ARMED stops: PANEL, RECALL or IMAGE. -/
def Mover.yields : Mover → Bool
  | .panel | .recall | .image => true
  | .crash | .restore => false

/-- ARMED is entered: a crash-role axis stops for it (R72). -/
def Ev.armAxis (e : Ev) (i : Fin 8) : Ev :=
  if !e.crashAxis i then e
  else
    let e := match e.axes[i].pending with
      | some r => if r.mover.yields then e.replacePending i none .armed else e
      | none => e
    if e.axes[i].mover.any Mover.yields then
      match e.axes[i].state with
      | .running => e.endMove i .armed
      | .starting => e.endToPark i .armed
      | .idle | .stopping | .parking | .reversing | .blocked => e
    else e

/-- LOCKED is entered (R72): drives off without coast, pending requests removed. -/
def Ev.lockAxis (e : Ev) (i : Fin 8) : Ev :=
  if !(e.axisConf i).fitted then e
  else
    let e := e.replacePending i none .locked
    match e.axes[i].state with
    | .starting | .running | .reversing | .stopping => e.endToPark i .locked
    | .idle | .parking | .blocked => e

/-! ## Start-up and a new configuration (R45, R59, R63, R73) -/

/-- The soft limits when a configuration first comes in force (R59). -/
def Ev.limitsFromStroke (e : Ev) (i : Fin 8) : Ev :=
  if (e.axisConf i).fitted then
    e.setAxis i { e.axes[i] with limitLo := 40, limitHi := (e.axisConf i).stroke - 40 }
  else e

/-- The three shadow words of a fitted axis at start-up (R63). -/
def Ev.shadowRead (e : Ev) (i : Fin 8) (pos flags check : Word) : Ev :=
  let good := check == checkWord tagShadow [pos, flags] && field flags 0 1 == 0
  let unreferenced := e.setAxis i { e.axes[i] with referenced := false, count := 0 }
  if good && field flags 1 1 == 0 then unreferenced
  else if good && decide (pos.toNat ≤ (e.axisConf i).stroke) then
    (e.setAxis i { e.axes[i] with referenced := true, count := pos.toNat }).limitsFromStroke i
  else unreferenced.hand .shadowStale (toWord i.val) absent

/-- A new configuration is applied (R73); the configuration in force is already the new one. A move stopped from STARTING
enters PARKING, its shadow taken (R56), before a changed stroke makes the axis unreferenced: the rules give no order (log
entry 33). -/
def Ev.axisApply (old : Conf) (e : Ev) (i : Fin 8) : Ev :=
  let was := old.axes[i]
  let is := e.axisConf i
  if !was.fitted then
    if is.fitted then (e.setAxis i Axis.reset).limitsFromStroke i else e
  else
    let e := e.replacePending i none .config
    if !is.fitted then
      let e := e.endGoal i .config false
      let owed := e.axes[i].parkOwed
      let e := (e.releaseAxis i).setAxis i Axis.reset
      owed.foldl (fun e m => e.tell (.axisParked i m)) e
    else
      let e := match e.axes[i].state with
        | .running | .reversing => e.endMove i .config
        | .starting => e.endToPark i .config
        | .idle | .stopping | .parking | .blocked => e
      let e := if was.stroke != is.stroke then
          (e.setAxis i { e.axes[i] with referenced := false }).limitsFromStroke i
        else e
      let a := e.axes[i]
      if a.state == .blocked then e.unblock i
      else if is.thermalLimit ≤ a.thermal then
        if a.state == .idle then e.setAxis i { a with state := .blocked, idleEdge := false }
        else e.setAxis i { a with overheated := true }
      else e

end Sys2Proof.Machine
end

