-- ==== Sys2Proof/Machine/Climate.lean ====
section
/-! DEFINITION. The climate controller (08_heating_and_ventilation.md): levels, pairing, regulation, diagnostics,
acknowledgements, step-down and mirror writes. -/

namespace Sys2Proof.Machine

/-- A zone record replaced within an event. -/
def Ev.setZone (e : Ev) (z : Fin 6) (x : Zone) : Ev := { e with zones := e.zones.set z x }

/-- Zones 0 to 3 are heaters, 4 and 5 fans. -/
def isHeater (z : Fin 6) : Bool := decide (z.val < 4)

/-- The other zone of the current sense channel (R147). -/
def senseMate (z : Fin 6) : Option (Fin 6) :=
  match z with
  | 0 => some 1
  | 1 => some 0
  | 2 => some 3
  | 3 => some 2
  | _ => none

/-- The paired zone: each names the other (R152). -/
def State.pairOf (s : State) (z : Fin 6) : Option (Fin 6) :=
  match (s.zoneConf z).pair with
  | none => none
  | some p => if (s.zoneConf z).fitted && (s.zoneConf p).fitted && (s.zoneConf p).pair == some z then some p else none

/-- The level targets of a descriptor. -/
def ZoneConf.targets (k : ZoneConf) : Nat × Nat × Nat := (k.target1, k.target2, k.target3)

/-- The target of a level above 0 among three. -/
def targetAt (t : Nat × Nat × Nat) (level : Nat) : Nat :=
  if level == 1 then t.1 else if level == 2 then t.2.1 else t.2.2

/-- The level target of a level above 0: a temperature or a duty. -/
def ZoneConf.target (k : ZoneConf) (level : Nat) : Nat := targetAt (ZoneConf.targets k) level

/-- The output of a zone: the duty it runs at, 0 when off (R150, R151). A heater is switched on, 100. A fan keeps to the
duties of the configuration before until its next arrival (R160). -/
def State.zoneDuty (s : State) (z : Fin 6) : Nat :=
  let x := s.zones[z]
  if x.state == .on then
    (if isHeater z then 100 else targetAt (x.duties.getD (ZoneConf.targets (s.zoneConf z))) x.level)
  else 0

/-- The on-through mark of the other zone of the channel clears when an output switches; its partner-on mark is
set when the output goes on (R147, R150). -/
def Ev.mateSwitched (e : Ev) (z : Fin 6) (on : Bool) : Ev :=
  match senseMate z with
  | none => e
  | some m =>
    if (e.zoneConf m).fitted then
      e.setZone m { e.zones[m] with onThrough := false, partnerOn := e.zones[m].partnerOn || on }
    else e

/-- A zone enters ON: its output is switched on (R150, R151). -/
def Ev.zoneOn (e : Ev) (z : Fin 6) : Ev :=
  (e.setZone z { e.zones[z] with state := .on, onThrough := false, spinUp := 0 }).mateSwitched z true

/-- A zone takes a state with its output off. -/
def Ev.zoneOff (e : Ev) (z : Fin 6) (st : ZoneState) : Ev :=
  if e.zones[z].state == .on then
    (e.setZone z { e.zones[z] with state := st, onThrough := false }).mateSwitched z false
  else e.setZone z { e.zones[z] with state := st }

/-- A zone takes a state with its output off and releases its claim. -/
def Ev.zoneRelease (e : Ev) (z : Fin 6) (st : ZoneState) : Ev :=
  (e.zoneOff z st).releaseClaim (zoneClaimant z)

/-- A zone claims: DEMAND (R150, R151). -/
def Ev.zoneClaim (e : Ev) (z : Fin 6) : Ev :=
  (e.zoneOff z .demand).claim (zoneClaimant z) (if isHeater z then .heater else .fan) .unlimited

/-- The budget tells a zone its decision (R150). -/
def Ev.zoneTold (e : Ev) (z : Fin 6) (o : Told) : Ev :=
  let st := e.zones[z].state
  match o with
  | .granted =>
    if (st == .demand || st == .shed) && e.budget.table[zoneClaimant z].state == .granted then e.zoneOn z
    else e
  | .shed => if st == .demand || st == .on then e.zoneOff z .shed else e
  | .revoked | .refused => e

/-- The event calls for a mirror write of the level (R157). One write is in flight at a time. A host value
waiting as an acknowledgement is no longer what memory will hold (log entry 20). Of two changes of the level in one event the
first is offered, and the second follows when that write completes: DESIGN CHOICE (log entry 40). -/
def Ev.mirrorLevel (e : Ev) (z : Fin 6) : Ev :=
  let x := { e.zones[z] with ack := e.zones[z].ack.map (fun (a : Nat × Bool) => (a.1, false)) }
  match x.mirrorNow with
  | some _ => e.setZone z x
  | none =>
    (e.setZone z { x with mirrorNow := some x.level }).offerWrite (.levelMirror z)
      (slotAddr e.conf (.level z)) (toWord x.level) false

/-- A LEVEL mirror write completes (R157). -/
def Ev.mirrorLevelDone (e : Ev) (z : Fin 6) : Ev :=
  match e.zones[z].mirrorNow with
  | none => e
  | some v =>
    let e := e.setZone z { e.zones[z] with mirrorNow := none }
    if e.zones[z].level == v then e else e.mirrorLevel z

/-- The level changes, with its step-down timer (R153). -/
def Ev.putLevel (e : Ev) (z : Fin 6) (n : Nat) : Ev :=
  e.setZone z { e.zones[z] with
    level := n,
    stepSince := if n == 3 && (e.zoneConf z).stepDown != 0 then some e.now else none }

/-- A zone's level is forced to 0; a FAULTED zone keeps its state (R152). -/
def Ev.forceZero (e : Ev) (z : Fin 6) : Ev :=
  if e.zones[z].level == 0 then e
  else
    let e := e.putLevel z 0
    let e := if e.zones[z].state == .faulted then e else e.zoneOff z .off
    (e.mirrorLevel z).releaseClaim (zoneClaimant z)

/-- The pairing (R152): the paired zone's level becomes 0. -/
def Ev.pairing (e : Ev) (z : Fin 6) (n : Nat) : Ev :=
  if n == 0 then e
  else
    match e.pairOf z with
    | some p => e.forceZero p
    | none => e

/-- A level request for a zone that is not FAULTED (R149). -/
def Ev.setLevel (e : Ev) (z : Fin 6) (n : Nat) (byHost : Bool) : Ev :=
  let old := e.zones[z].level
  if n == old then e
  else
    let e := e.putLevel z n
    let e := if byHost then e else e.mirrorLevel z
    if n == 0 then e.zoneRelease z .off
    else
      let e := e.pairing z n
      if old == 0 && !isHeater z then e.zoneClaim z else e

/-- A request of the host or the panel (R149, R156). A host acknowledgement taken while a mirror write is in flight calls for no
mirror of its own, though that write may overwrite it: DESIGN CHOICE, since R157 does not say (log entry 39). -/
def Ev.requestLevel (e : Ev) (z : Fin 6) (n : Nat) (byHost : Bool) : Ev :=
  if e.zones[z].state == .faulted then
    (e.setZone z { e.zones[z] with ack := some (n, byHost) }).pairing z n
  else e.setLevel z n byHost

/-- The next level in the panel's cycle (R149). -/
def nextLevel (n : Nat) : Nat := if n == 0 then 3 else n - 1

/-- A press of a HEAT or VENT key (R149, R156). -/
def Ev.panelLevel (e : Ev) (z : Fin 6) : Ev :=
  if (e.zoneConf z).fitted then e.requestLevel z (nextLevel e.zones[z].level) false else e

/-- A recall's level (R149, R156): a FAULTED zone takes the level and stays FAULTED. -/
def Ev.recallLevel (e : Ev) (z : Fin 6) (n : Nat) : Ev :=
  if !(e.zoneConf z).fitted then e
  else if e.zones[z].state == .faulted then
    let e := if e.zones[z].level == n then e else (e.putLevel z n).mirrorLevel z
    e.pairing z n
  else e.setLevel z n false

/-- The step-down timer reaches the step-down time (R153). -/
def Ev.stepDown (e : Ev) (z : Fin 6) : Ev := (e.putLevel z 2).mirrorLevel z

/-- The step-down timer expires. -/
def Ev.stepDownExpiry (e : Ev) (z : Fin 6) : Ev :=
  match e.zones[z].stepSince with
  | none => e
  | some t => (e.due (t + (e.zoneConf z).stepDown * 60000000)).stepDown z

/-! ## Arrivals -/

/-- The open and the short band of an NTC code (R148). -/
def ntcOpenBand (code : Nat) : Bool := decide (64000 < code)
def ntcShortBand (code : Nat) : Bool := decide (code < 1000)

/-- Hold a number between two ends. -/
def clampInt (lo hi x : Int) : Int := if x < lo then lo else if hi < x then hi else x

/-- The temperature of an NTC code (R148). -/
def ntcTemperature (k : ZoneConf) (code : Nat) : Option Int :=
  if ntcOpenBand code || ntcShortBand code then none
  else some (clampInt (-400) 1500 ((((code : Int) - (k.ntcOffset : Int)) * 10).tdiv (k.ntcGain : Int)))

/-- The present set of a heater at an arrival (R154). -/
def State.heaterPresent (s : State) (z : Fin 6) (code current : Nat) (temp : Option Int) : BitVec 5 :=
  let k := s.zoneConf z
  let x := s.zones[z]
  let hot := match temp with
    | some t => decide ((k.overTemp : Int) < t)
    | none => false
  let element := x.onThrough && !x.partnerOn && decide (current < (k.current + 1) / 2)
  BitVec.ofNat 5 (bit (ntcOpenBand code) + 2 * bit (ntcShortBand code) + 4 * bit hot + 8 * bit element)

/-- The present set of a fan at an arrival (R154). -/
def Zone.fanPresent (x : Zone) : BitVec 5 :=
  BitVec.ofNat 5 (16 * bit (x.onThrough && x.spinUp == 10 && x.period.isNone))

/-- The confirm count of one kind after an arrival (R154). -/
def Zone.counted (x : Zone) (k : ZoneConf) (present : BitVec 5) (i : Fin 5) : Nat :=
  if !k.mask.getLsbD i.val then 0
  else if i == 3 && x.partnerOn then x.confirm[i]
  else if present.getLsbD i.val then min 15 (x.confirm[i] + 1)
  else 0

/-- The fault kinds in order. -/
def zoneFaultAt (i : Fin 5) : ZoneFault :=
  match i with
  | 0 => .ntcOpen
  | 1 => .ntcShort
  | 2 => .overTemp
  | 3 => .elementOpen
  | 4 => .fanStall

def allKinds : List (Fin 5) := [0, 1, 2, 3, 4]

/-- The number of a fault kind in the order of the diagnostic mask. -/
def ZoneFault.index : ZoneFault → Fin 5
  | .ntcOpen => 0
  | .ntcShort => 1
  | .overTemp => 2
  | .elementOpen => 3
  | .fanStall => 4

/-- The confirm counts after an arrival of a zone that is not FAULTED. -/
def Zone.countAll (x : Zone) (k : ZoneConf) (present : BitVec 5) : Vector Nat 5 :=
  ⟨#[x.counted k present 0, x.counted k present 1, x.counted k present 2, x.counted k present 3,
     x.counted k present 4], rfl⟩

/-- The detail of a fault entry (R155). -/
def faultDetail (x : Zone) (i : Fin 5) (code current : Word) : Word :=
  match i with
  | 0 | 1 => code
  | 2 => match x.temperature with
    | some t => toWord t.toNat
    | none => absent
  | 3 => current
  | 4 => absent

/-- The diagnostics of an arrival (R154, R155). -/
def Ev.diagnose (e : Ev) (z : Fin 6) (present : BitVec 5) (code current : Word) : Ev :=
  let x := e.zones[z]
  let k := e.zoneConf z
  if x.state == .faulted then e.setZone z { x with present := present }
  else
    let counts := x.countAll k present
    let e := e.setZone z { x with present := present, confirm := counts }
    match allKinds.find? (fun i => present.getLsbD i.val && decide (k.confirm ≤ counts[i]) && k.mask.getLsbD i.val) with
    | none => e
    | some i =>
      let e := (e.setZone z { e.zones[z] with fault := some (zoneFaultAt i),
                                              confirm := Vector.replicate 5 0 }).zoneRelease z .faulted
      e.hand (.zone (zoneFaultAt i)) (toWord z.val) (faultDetail x i code current)

/-- The fault condition is absent at the arrival (R156). -/
def Zone.faultAbsent (x : Zone) : Bool :=
  match x.fault with
  | some .ntcOpen => !x.present.getLsbD 0
  | some .ntcShort => !x.present.getLsbD 1
  | some .overTemp => !x.present.getLsbD 2
  | _ => true

/-- A pending acknowledgement is settled (R156). -/
def Ev.settleAck (e : Ev) (z : Fin 6) : Ev :=
  let x := e.zones[z]
  match x.ack with
  | none => e
  | some (n, byHost) =>
    if x.faultAbsent then
      let e := e.setZone z { x with ack := none, fault := none, state := .off }
      let e := e.setLevel z n byHost
      if !isHeater z && e.zones[z].state == .off && e.zones[z].level != 0 then e.zoneClaim z else e
    else (e.setZone z { x with ack := none }).mirrorLevel z

/-- Regulation of a heater (R150). -/
def Ev.regulate (e : Ev) (z : Fin 6) : Ev :=
  let x := e.zones[z]
  if x.state == .faulted || x.level == 0 then e
  else
    let target : Int := (ZoneConf.target (e.zoneConf z) x.level : Nat)
    let warm := match x.temperature with
      | none => true
      | some t => decide (target ≤ t)
    let cold := match x.temperature with
      | none => false
      | some t => decide (t < target - 10)
    if warm then (if x.state == .off then e else e.zoneRelease z .off)
    else if cold && x.state == .off then e.zoneClaim z
    else e

/-- The latest samples of an arrival's channels. -/
def Ev.measured (e : Ev) (z : Fin 6) (code current : Word) : Ev :=
  if h : z.val < 4 then
    { e with meas := { e.meas with ntc := e.meas.ntc.set z.val (some code) h,
                                   heater := e.meas.heater.set (z.val / 2) (some current) (by omega) } }
  else e

/-- A climate arrival of a heater (R147). -/
def Ev.heaterArrival (e : Ev) (z : Fin 6) (code current : Word) : Ev :=
  let e := e.measured z code current
  let temp := ntcTemperature (e.zoneConf z) code.toNat
  let e := e.setZone z { e.zones[z] with temperature := temp }
  let e := e.diagnose z (e.heaterPresent z code.toNat current.toNat temp) code current
  ((e.settleAck z).regulate z).tell (.zoneEnd z)

/-- A climate arrival of a fan (R147, R151); from here on its duties are those in force (R160). -/
def Ev.fanArrival (e : Ev) (z : Fin 6) (period : Option Nat) : Ev :=
  let x := e.zones[z]
  let x := { x with period := period, duties := none, spinUp := if x.state == .on then min 10 (x.spinUp + 1) else x.spinUp }
  let e := (e.setZone z x).diagnose z x.fanPresent absent absent
  (e.settleAck z).tell (.zoneEnd z)

/-- A climate arrival. -/
def Ev.climateArrival (e : Ev) (z : Fin 6) (a : Arrival) : Ev :=
  if !(e.working && (e.zoneConf z).fitted) then e
  else
    match a with
    | .heater code current => if isHeater z then e.heaterArrival z code current else e
    | .fan period => if isHeater z then e else e.fanArrival z period

/-- The end of an arrival: the on-through and partner-on marks (R147). -/
def Ev.zoneEnd (e : Ev) (z : Fin 6) : Ev :=
  let mateOn := match senseMate z with
    | some m => e.zones[m].state == .on
    | none => false
  e.setZone z { e.zones[z] with onThrough := e.zones[z].state == .on, partnerOn := mateOn }

/-! ## A new configuration (R160) -/

/-- One zone at the application of a configuration; the configuration in force is already the new one. -/
def Ev.zoneApply (old : Conf) (e : Ev) (z : Fin 6) : Ev :=
  let was := old.zones[z]
  let is := e.zoneConf z
  if !is.fitted then
    if was.fitted then (e.zoneRelease z .off).setZone z Zone.reset else e
  else if !was.fitted then e.setZone z Zone.reset
  else
    let x := e.zones[z]
    let keep := fun (i : Fin 5) => if is.mask.getLsbD i.val then x.confirm[i] else 0
    let duties := if isHeater z then none else some (x.duties.getD (ZoneConf.targets was))
    let e := e.setZone z { x with confirm := ⟨#[keep 0, keep 1, keep 2, keep 3, keep 4], rfl⟩, duties := duties }
    match x.stepSince with
    | none => e
    | some t =>
      if is.stepDown == 0 then e.setZone z { e.zones[z] with stepSince := none }
      else if is.stepDown * 60000000 ≤ e.now - t then e.stepDown z
      else e

/-- The new pairings: where both zones have a level, the fan's becomes 0 (R160). -/
def Ev.pairApply (e : Ev) (z : Fin 6) : Ev :=
  match e.pairOf z with
  | some p => if !isHeater z && e.zones[p].level != 0 then e.forceZero z else e
  | none => e

/-- The climate controller's answer to a new configuration. Zones that release do so in ascending number, each with its grant
pass, those newly unfitted before the fans of a new pairing: DESIGN CHOICE, since R160 gives no order (log entry 33). -/
def Ev.climateApply (old : Conf) (e : Ev) : Ev :=
  allZones.foldl Ev.pairApply (allZones.foldl (Ev.zoneApply old) e)

/-! ## The slots (R157, R158) -/

/-- Codes of section 11.3. -/
def zoneStateCode : ZoneState → Nat
  | .off => 0
  | .demand => 1
  | .on => 2
  | .shed => 3
  | .faulted => 4

/-- The TEMPERATURE slot. -/
def State.temperatureWord (s : State) (z : Fin 6) : Word :=
  let x := s.zones[z]
  if isHeater z then
    match x.temperature with
    | some t => toWord (t + 400).toNat
    | none => absent
  else
    match x.period with
    | some p => if 65535 < 1000000 / p then Config.tachRateBeyondWord p else toWord (1000000 / p)
    | none => absent

/-- The STATE slot of a zone. -/
def Zone.stateWord (x : Zone) : Word :=
  let pending := match x.ack with
    | some (n, _) => 64 + 256 * n
    | none => 0
  toWord (zoneStateCode x.state + 16 * x.level + pending + 1024 * bit x.stepSince.isSome)

/-- The FAULT slot of a zone. -/
def Zone.faultWord (x : Zone) : Word :=
  let kind := match x.fault with
    | some f => f.index.val + 1
    | none => 0
  toWord (kind + 256 * x.present.toNat)

end Sys2Proof.Machine
end

