-- ==== Sys2Proof/Machine/Engine.lean ====
section
/-! DEFINITION. The recall and store engine (05_remembered_positions.md): the profile table and its checks, the
store, the recall, and the RECALL and STORE slots. -/

namespace Sys2Proof.Machine

/-- The engine's state replaced within an event. -/
def Ev.setEngine (e : Ev) (g : Engine) : Ev := { e with engine := g }

/-- The recall record replaced within an event. -/
def Ev.setPlan (e : Ev) (r : Recall) : Ev := { e with engine := { e.engine with plan := r } }

/-- A profile table entry replaced within an event. -/
def Ev.setProfile (e : Ev) (n : Fin 4) (p : ProfileEntry) : Ev :=
  { e with engine := { e.engine with profiles := e.engine.profiles.set n p } }

/-- The address of a word of a profile record. -/
def profileAddr (k : Conf) (n : Fin 4) (off : Nat) : Addr := regionAddr k .profile (32 * n.val + off)

/-- An address lies in a profile record. -/
def inRecord (k : Conf) (n : Fin 4) (a : Addr) : Bool :=
  let base := (profileAddr k n 0).toNat
  decide (base ≤ a.toNat) && decide (a.toNat < base + 32)

/-- The number of a profile, 1 to 4, as a word. -/
def profileWord (n : Fin 4) : Word := toWord (n.val + 1)

/-- Codes of the recall causes (section 11.3). -/
def recallCauseCode : Option RecallCause → Nat
  | none => 0
  | some .panelKey => 1
  | some .newRecall => 2
  | some .cancelled => 3
  | some .legFault => 4
  | some .armed => 5
  | some .pull => 6
  | some .locked => 7
  | some .config => 8
  | some .keyReleased => 9
  | some .notValid => 10
  | some .check => 11
  | some .changed => 12

/-! ## Checks (R93, R94) -/

/-- The result of a check: state and store count (R93). -/
def checkRecord (ws : List Word) : ProfileState × Nat :=
  let h := ws.getD 0 0
  if h == absent || hi h == 0 then (.empty, 0)
  else if hi h == 0xC0 && ws.getD 31 0 == checkWord tagProfile (ws.take 31) then (.valid, lo h)
  else (.invalid, lo h)

/-- An entry is under check. -/
def State.underCheck (s : State) (n : Fin 4) : Bool := s.engine.profiles[n].mark != .none

/-- The words of a record read at start-up set its entry (R92). -/
def Ev.profileRead (e : Ev) (n : Fin 4) (ws : List Word) : Ev :=
  let r := checkRecord ws
  e.setProfile n ⟨r.1, r.2, .none⟩

/-- The next check begins if none is running (R94). -/
def Ev.beginCheck (e : Ev) : Ev :=
  match e.engine.check, allProfiles.find? (fun n => e.engine.profiles[n].mark == .pending) with
  | none, some n =>
    let e := e.setProfile n { e.engine.profiles[n] with mark := .running }
    (e.setEngine { e.engine with check := some ⟨n, [], false⟩ }).offerRead .profileCheck (profileAddr e.conf n 0)
  | _, _ => e

/-! ## The slots' neutral writes (R107) -/

/-- A request of SEAT RECALL or STORE for profile `n` is over: the slot's neutral write is offered. The mark is of the last
request taken from the slot, which need not be this one (log entry 13). -/
def Ev.seatNeutral (e : Ev) (store : Bool) (n : Fin 4) : Ev :=
  let ended := fun (m : Option RequestMark) =>
    m.map (fun x => { x with ended := x.ended || x.number == n.val + 1 })
  let e :=
    if store then e.setEngine { e.engine with storeMark := ended e.engine.storeMark }
    else e.setEngine { e.engine with recallMark := ended e.engine.recallMark }
  let c := if store then CSlot.store else CSlot.recall
  e.offerWrite (.seatNeutral store) (slotAddr e.conf c) (e.neutralValue c) false

/-- A slot's neutral write completes: the mark of a request that is over clears (R107, log entry 13). -/
def Ev.seatNeutralDone (e : Ev) (store : Bool) : Ev :=
  let clear := fun (m : Option RequestMark) => match m with
    | some x => if x.ended then none else some x
    | none => none
  if store then e.setEngine { e.engine with storeMark := clear e.engine.storeMark }
  else e.setEngine { e.engine with recallMark := clear e.engine.recallMark }

/-- A recall request is over: if it is of origin SLOT, and no later request of the slot has replaced it, the neutral write
is offered (R107). -/
def Ev.recallSlotOver (e : Ev) (r : Option (Fin 4 × Origin)) : Ev :=
  match r with
  | some (n, .slot) => e.seatNeutral false n
  | _ => e

/-! ## Store (R95 to R98) -/

/-- What an examination of a store request finds (R95). -/
inductive StoreVerdict
  | inProgress
  | axisBusy (i : Fin 8)
  | free
  deriving DecidableEq, Repr

/-- A recall is READING, RUNNING or ABORTING. -/
def State.recallActive (s : State) : Bool :=
  match s.engine.plan.state with
  | .reading | .running _ | .aborting => true
  | .idle | .done => false

/-- A recall is READING or RUNNING. -/
def State.recallAbortable (s : State) : Bool :=
  match s.engine.plan.state with
  | .reading | .running _ => true
  | .idle | .aborting | .done => false

/-- The examination of a store request (R95). -/
def State.storeVerdict (s : State) (n : Fin 4) : StoreVerdict :=
  if s.engine.store.isSome || s.recallActive || s.underCheck n then .inProgress
  else
    match allAxes.find? (fun i =>
      (s.axisConf i).fitted && s.axes[i].state != .idle && s.axes[i].state != .blocked) with
    | some i => .axisBusy i
    | none => .free

/-- The 30 words a store writes to +1 to +30 (R96). -/
def State.storeWords (s : State) : List Word :=
  let axisWord := fun (i : Fin 8) =>
    if (s.axisConf i).fitted && s.axes[i].referenced then toWord s.axes[i].count else absent
  let chamberWord := fun (c : Fin 12) =>
    let k := s.chamberConf c
    let x := s.air.chambers[c]
    if k.fitted && k.role != .massage && x.state != .fault then
      (match x.posture with
       | some v => toWord v
       | none => absent)
    else absent
  let zoneWord := fun (z : Fin 6) => if (s.zoneConf z).fitted then toWord s.zones[z].level else absent
  let m := s.air.massage
  let pattern := if m.state == .fetching || m.state == .running then m.pattern else none
  allAxes.map axisWord ++ allChambers.map chamberWord ++ allZones.map zoneWord ++
    (match pattern with
     | some p => [toWord (p.val + 1), toWord m.intensity]
     | none => [0, absent]) ++ [absent, absent]

/-- Marker codes of a profile HEADER (section 11.4). -/
def markerWriting : Nat := 0x57
def markerComplete : Nat := 0xC0

/-- The values of a store's 33 writes in order (R97). -/
def storeWrites (count : Nat) (fields : List Word) : List Word :=
  let done := bytes markerComplete ((count + 1) % 256)
  [bytes markerWriting count] ++ fields ++ [checkWord tagProfile (done :: fields), done]

/-- The offset of the k-th write of a store. -/
def storeOffset (k : Nat) : Nat := if k == 32 then 0 else k

/-- The next write of the store is offered. -/
def Ev.offerStore (e : Ev) : Ev :=
  match e.engine.store with
  | none => e
  | some r =>
    e.offerWrite .storeWrite (profileAddr e.conf r.profile (storeOffset r.done)) (r.writes.getD r.done 0) false

/-- A forwarded write into the record that waits for the D-port is withdrawn when the store guard begins
(R22). -/
def Ev.storeGuardDrop (e : Ev) (n : Fin 4) : Ev :=
  match e.uport with
  | .waiting (.write a v _) =>
    if inRecord e.conf n a then { e with uport := .idle }.refusal .storeGuard a v else e
  | _ => e

/-- A store is taken (R96, R97). -/
def Ev.takeStore (e : Ev) (n : Fin 4) (fromSlot : Bool) : Ev :=
  let p := e.engine.profiles[n]
  let run : StoreRun :=
    { profile := n, fromSlot := fromSlot, writes := storeWrites p.count e.storeWords,
      newCount := (p.count + 1) % 256, done := 0 }
  let e := e.setProfile n { p with state := .writing }
  ((e.setEngine { e.engine with store := some run }).storeGuardDrop n).offerStore

/-- The entry of a refused store request (R95). -/
def Ev.storeBusy (e : Ev) (n : Fin 4) (detail : Nat) : Ev := e.hand .storeBusy (profileWord n) (toWord detail)

/-- A store request of the panel (R95). -/
def Ev.panelStore (e : Ev) (n : Fin 4) : Ev :=
  match e.storeVerdict n with
  | .inProgress => e.storeBusy n 0x0100
  | .axisBusy i => e.storeBusy n i.val
  | .free => e.takeStore n false

/-- A store write completes (R97). -/
def Ev.storeWritten (e : Ev) : Ev :=
  match e.engine.store with
  | none => e
  | some r =>
    if r.done + 1 < 33 then
      (e.setEngine { e.engine with store := some { r with done := r.done + 1 } }).offerStore
    else
      let e := e.setEngine { e.engine with store := none }
      let e := e.setProfile r.profile { e.engine.profiles[r.profile] with state := .valid, count := r.newCount }
      (if r.fromSlot then e.seatNeutral true r.profile else e).tell .queuedRecall

/-- The store's last write has been granted: the store guard is over (R22). -/
def State.storeSealed (s : State) : Bool :=
  match s.engine.store, s.ins.port with
  | some r, .inserted c _ => r.done == 32 && c.purpose == .storeWrite && !c.discard
  | _, _ => false

/-- The profile record under the store guard (R22). -/
def State.guardedProfile (s : State) : Option (Fin 4) :=
  match s.engine.store with
  | some r => if s.storeSealed then none else some r.profile
  | none => none

/-! ## Recall (R99 to R106) -/

/-- The recall in progress reaches DONE: the slot's request is over and a queued recall may start. -/
def Ev.recallDone (e : Ev) (result : RecallResult) (cause : Option RecallCause) : Ev :=
  let r := e.engine.plan
  let e := e.setPlan { r with state := .done, result := result, cause := cause }
  (e.recallSlotOver (r.profile.bind (fun n => r.origin.map (fun o => (n, o))))).tell .queuedRecall

/-- A PROFILE_INVALID entry. -/
def Ev.profileInvalid (e : Ev) (n : Fin 4) (c : RecallCause) : Ev :=
  e.hand .profileInvalid (profileWord n) (toWord (recallCauseCode (some c)))

/-- A read of READING in flight will have its value discarded (R100). -/
def Ev.dropReading (e : Ev) : Ev := { e with ins := e.ins.discard (fun c => c.purpose == .recallRead) }

/-- A planned leg is cancelled (R105). -/
def Leg.cancel (l : Leg) : Leg :=
  if l.phase == .planned then { l with phase := .finished, outcome := some .cancelled } else l

/-- A recall in READING or RUNNING is aborted (R105). -/
def Ev.abortRecall (e : Ev) (cause : RecallCause) : Ev :=
  if !e.recallAbortable then e
  else
    let r := e.engine.plan
    let e := e.dropReading
    let e := e.setPlan { r with state := .aborting, cause := some cause, legs := r.legs.map Leg.cancel }
    let e := r.legs.foldl (fun e l => if l.phase == .requested then e.stopRequest l.axis .recall else e) e
    let e := match r.profile with
      | some n => e.hand .recallAborted (profileWord n) (toWord (recallCauseCode (some cause)))
      | none => e
    e.tell .recallStep

/-- The queued recall becomes `q`; a dropped request of the slot is over unless replaced through the slot
(R99, R107). -/
def Ev.setQueued (e : Ev) (q : Option (Fin 4 × Origin)) : Ev :=
  let old := e.engine.plan.queued
  let e := e.setPlan { e.engine.plan with queued := q }
  match q with
  | some (_, .slot) => e
  | _ => e.recallSlotOver old

/-- A new recall starts: READING (R99, R100). -/
def Ev.startRecall (e : Ev) (n : Fin 4) (o : Origin) : Ev :=
  let r := e.engine.plan
  (e.setPlan { r with state := .reading, profile := some n, origin := some o, copy := [], reading := true,
                      legs := [], result := .none, cause := none }).offerRead .recallRead (profileAddr e.conf n 0)

/-- A recall request for a profile is refused (R99). -/
def State.recallRefused (s : State) (n : Fin 4) : Bool :=
  s.engine.profiles[n].state != .valid && s.engine.profiles[n].mark == .none

/-- A request just taken from the slot, and not refused, replaces a recall of origin SLOT in progress (R107). -/
def Ev.replaceSlotRecall (e : Ev) : Ev :=
  if e.recallActive && e.engine.plan.origin == some .slot then
    e.setPlan { e.engine.plan with origin := some .replaced }
  else e

/-- A recall request (R99). The rule does not say what becomes of a queued recall, held for a profile under check, when
another recall starts from IDLE or DONE: it stays queued (log entry 36). -/
def Ev.recallRequest (e : Ev) (n : Fin 4) (o : Origin) : Ev :=
  let p := e.engine.profiles[n]
  if e.recallRefused n then
    let e := e.profileInvalid n .notValid
    let e := if e.recallActive then e
      else e.setPlan { e.engine.plan with state := .done, profile := some n, origin := some o, copy := [],
                                          legs := [], result := .refused, cause := some .notValid }
    e.recallSlotOver (some (n, o))
  else
    match e.engine.plan.state with
    | .idle | .done =>
      if e.engine.store.isSome || p.mark != .none then e.setQueued (some (n, o)) else e.startRecall n o
    | .reading | .running _ => (e.setQueued (some (n, o))).abortRecall .newRecall
    | .aborting => e.setQueued (some (n, o))

/-- A queued recall is examined again as a request arriving now (R99). -/
def Ev.examineQueued (e : Ev) : Ev :=
  match e.engine.plan.queued with
  | some (n, o) => (e.setPlan { e.engine.plan with queued := none }).recallRequest n o
  | none => e

/-- No recall is in progress: a queued recall may start (R99). -/
def Ev.takeQueued (e : Ev) : Ev := if e.recallActive then e else e.examineQueued

/-- A queued recall whose own profile is no longer under check is examined again also while a recall is in progress
(R99). -/
def Ev.queuedChecked (e : Ev) (n : Fin 4) : Ev :=
  match e.engine.plan.queued with
  | some (m, _) => if m == n && e.recallActive && !e.underCheck n then e.examineQueued else e
  | none => e

/-- A profile check read completes (R94). -/
def Ev.checkWordRead (e : Ev) (w : Word) : Ev :=
  match e.engine.check with
  | none => e
  | some r =>
    let ws := r.words ++ [w]
    if ws.length < 32 then
      (e.setEngine { e.engine with check := some { r with words := ws } }).offerRead .profileCheck
        (profileAddr e.conf r.profile ws.length)
    else
      let e := e.setEngine { e.engine with check := none }
      let e := if r.void then e else e.profileRead r.profile ws
      ((e.queuedChecked r.profile).tell .profileCheck).tell .queuedRecall

/-- The plan built from a record copy (R101). -/
def State.buildPlan (s : State) (ws : List Word) : List Leg :=
  let leg := fun (k : Fin 4) (i : Fin 8) =>
    let v := ws.getD (1 + i.val) absent
    let c := s.axisConf i
    if v != absent && c.fitted && c.rank % 4 == k.val then
      [if c.stroke < v.toNat then Leg.mk i v.toNat k .finished (some .skipped)
       else Leg.mk i v.toNat k .planned none]
    else []
  let rank := fun (k : Fin 4) => allAxes.flatMap (leg k)
  rank 0 ++ rank 1 ++ rank 2 ++ rank 3

/-- The record's other fields are handed to their jobs (R102). -/
def Ev.handOver (e : Ev) (ws : List Word) : Ev :=
  let e := allChambers.foldl (fun e c =>
    let v := ws.getD (9 + c.val) absent
    let k := e.chamberConf c
    if v != absent && k.fitted && k.role != .massage && decide (v.toNat ≤ k.maxPressure) then
      e.postureGiven c v.toNat
    else e) e
  let e := allZones.foldl (fun e z =>
    let v := ws.getD (21 + z.val) absent
    if v.toNat ≤ 3 && (e.zoneConf z).fitted then e.recallLevel z v.toNat else e) e
  let i := (ws.getD 28 absent).toNat
  let i := if 1 ≤ i && i ≤ 5 then i else 3
  match (ws.getD 27 absent).toNat with
  | 0 => e.massageStop
  | p + 1 => if h : p < 8 then e.massageStart ⟨p, h⟩ i else e

/-- A leg of rank k is requested (R103). -/
def Ev.requestLeg (k : Fin 4) (e : Ev) (l : Leg) : Ev :=
  if l.phase == .planned && l.rank == k then
    let r : Request := ⟨.recall, .target l.target⟩
    let put := fun (e : Ev) (l' : Leg) =>
      e.setPlan { e.engine.plan with legs := e.engine.plan.legs.map (fun x => if x.axis == l.axis then l' else x) }
    if e.startAnswer l.axis r == .declined then put e { l with phase := .finished, outcome := some .skipped }
    else (put e { l with phase := .requested }).startRequest l.axis r
  else e

/-- The state becomes RUNNING(k) and the legs of rank k are requested (R103). -/
def Ev.runRank (e : Ev) (k : Fin 4) : Ev :=
  let e := e.setPlan { e.engine.plan with state := .running k }
  (e.engine.plan.legs.foldl (Ev.requestLeg k) e).tell .recallStep

/-- READING has succeeded (R100 to R103). -/
def Ev.readingDone (e : Ev) (ws : List Word) : Ev :=
  let legs := e.buildPlan ws
  let e := e.setPlan { e.engine.plan with legs := legs }
  let e := e.handOver ws
  match legs with
  | [] => e.recallDone .complete none
  | l :: _ => e.runRank l.rank

/-- A recall read completes (R100). -/
def Ev.recallWordRead (e : Ev) (w : Word) : Ev :=
  let r := e.engine.plan
  match r.state, r.profile with
  | .reading, some n =>
    let ws := r.copy ++ [w]
    if ws.length < 32 then
      (e.setPlan { r with copy := ws }).offerRead .recallRead (profileAddr e.conf n ws.length)
    else
      let e := e.setPlan { r with copy := ws, reading := false }
      let res := checkRecord ws
      if res.1 == .valid then e.readingDone ws
      else
        let e := e.setProfile n { e.engine.profiles[n] with state := res.1, count := res.2 }
        (e.profileInvalid n .check).recallDone .refused (some .check)
  | _, _ => e

/-- A discarded read of READING completes (R100, R105). -/
def Ev.recallReadDropped (e : Ev) : Ev := (e.setPlan { e.engine.plan with reading := false }).tell .recallStep

/-- What a leg's end report gives (R104). -/
def legOutcome : StopCause → LegOutcome
  | .reached => .done
  | .limit | .thermal | .supplyLow | .noPower | .pinch | .stall | .hallFault => .failed
  | .stopRequest | .preempted | .armed | .config | .locked | .endStop | .crashTime => .cancelled

/-- A stop cause that aborts the recall (R104). -/
def legFault : StopCause → Bool
  | .pinch | .stall | .hallFault => true
  | .reached | .limit | .thermal | .supplyLow | .noPower | .stopRequest | .preempted | .armed | .config
  | .locked | .endStop | .crashTime => false

/-- An axis's end report to the engine (R104). -/
def Ev.legEnd (e : Ev) (i : Fin 8) (cause : StopCause) (onlyPending : Bool) : Ev :=
  if !e.engine.plan.legs.any (fun l => l.axis == i && l.phase == .requested) then e
  else
    let next := if onlyPending then Phase.finished else .ended
    let legs := e.engine.plan.legs.map (fun l =>
      if l.axis == i && l.phase == .requested then
        { l with phase := next, outcome := some (legOutcome cause) } else l)
    let e := e.setPlan { e.engine.plan with legs := legs }
    let e := if legFault cause then
        (match e.engine.plan.state with
         | .running _ => e.abortRecall .legFault
         | .idle | .reading | .aborting | .done => e)
      else e
    e.tell .recallStep

/-- An axis's parked report to the engine (R104). -/
def Ev.legParked (e : Ev) (i : Fin 8) : Ev :=
  let legs := e.engine.plan.legs.map (fun l =>
    if l.axis == i && l.phase == .ended then { l with phase := .finished } else l)
  (e.setPlan { e.engine.plan with legs := legs }).tell .recallStep

/-- A rank or an abort may have come to its end (R104, R105). -/
def Ev.recallStep (e : Ev) : Ev :=
  let r := e.engine.plan
  match r.state with
  | .running k =>
    if r.legs.any (fun l => l.rank == k && l.phase != .finished) then e
    else
      match r.legs.find? (fun l => l.phase == .planned) with
      | some l => e.runRank l.rank
      | none => e.recallDone .complete none
  | .aborting =>
    if r.reading || r.legs.any (fun l => l.phase != .finished) then e
    else if r.cause == some .changed then
      (match r.profile with
       | some n => e.profileInvalid n .changed
       | none => e).recallDone .refused r.cause
    else e.recallDone .aborted r.cause
  | .idle | .reading | .done => e

/-- The check word of a profile record has been written by the host (R94). A recall that is READING it takes cause CHANGED
with this report, so a read of RECALL_STATE in ABORTING shows it; R100 names the cause with DONE alone (log entry 36). -/
def Ev.profileReport (e : Ev) (n : Fin 4) : Ev :=
  let e := e.setProfile n { e.engine.profiles[n] with state := .invalid, mark := .pending }
  let e := match e.engine.check with
    | some r => if r.profile == n then e.setEngine { e.engine with check := some { r with void := true } } else e
    | none => e
  let r := e.engine.plan
  let e := if r.state == .reading && r.profile == some n then
      (e.dropReading.setPlan { r with state := .aborting, cause := some .changed }).tell .recallStep
    else e
  e.tell .profileCheck

/-- The crash controller enters ARMED (R105). -/
def Ev.recallArmed (e : Ev) : Ev :=
  if e.engine.plan.legs.any (fun l => l.phase != .finished && e.crashAxis l.axis) then e.abortRecall .armed else e

/-- The release of a memory key is reported (R106). -/
def Ev.memoryReleased (e : Ev) (key : Fin 30) : Ev :=
  if e.conf.recallMode != .holdToRun then e
  else
    let e := match e.engine.plan.queued with
      | some (_, .panel k) => if k == key then e.setQueued none else e
      | _ => e
    if e.engine.plan.origin == some (.panel key) then e.abortRecall .keyReleased else e

/-! ## A new configuration (R98, R109) -/

/-- The PROFILE window has moved (R98, R109). A store write that waits for a place in the insert queue takes effect at
the old address too (log entry 23). -/
def Ev.profilesMoved (e : Ev) : Ev :=
  let e := { e with ins := e.ins.discard (fun c => c.purpose == Purpose.profileCheck || c.purpose == Purpose.storeWrite) }
  let e := match e.engine.store with
    | some r =>
      let e := (e.setEngine { e.engine with store := none }).hand .storeAbandoned (profileWord r.profile) absent
      if r.fromSlot then e.seatNeutral true r.profile else e
    | none => e
  let e := e.setEngine { e.engine with check := none }
  let e := allProfiles.foldl
    (fun e n => e.setProfile n { e.engine.profiles[n] with state := .invalid, mark := .pending }) e
  e.tell .profileCheck

/-- The engine's answer to a new configuration but for the abort of the recall. -/
def Ev.engineApply (old : Conf) (e : Ev) : Ev :=
  if old.windows.profile == e.conf.windows.profile then e else e.profilesMoved

/-! ## The slots (R107, R108) -/

/-- The profile a slot value of 1 to 4 names. -/
def slotProfile (v : Word) : Fin 4 := Fin.ofNat 4 (v.toNat + 3)

/-- The value is the number held by a request mark. -/
def markIs (m : Option RequestMark) (v : Word) : Bool :=
  match m with
  | some x => x.number == v.toNat
  | none => false

/-- The answer of SEAT RECALL (R107). -/
def State.recallAnswer (s : State) (v : Word) : Answer :=
  if 4 < v.toNat then .refused
  else if v == 0 || markIs s.engine.recallMark v then .taken
  else if s.engine.store.isSome || s.underCheck (slotProfile v) then .busy
  else .taken

/-- A taken write of SEAT RECALL (R107). -/
def Ev.recallTake (e : Ev) (v : Word) : Ev :=
  if v == 0 then
    let e := if e.engine.plan.queued.isSome then e.setQueued none else e
    e.abortRecall .cancelled
  else if markIs e.engine.recallMark v then e
  else
    let e := e.setEngine { e.engine with recallMark := some ⟨v.toNat, false⟩ }
    (if e.recallRefused (slotProfile v) then e else e.replaceSlotRecall).recallRequest (slotProfile v) .slot

/-- The answer of SEAT STORE (R95, R107). -/
def State.storeAnswer (s : State) (v : Word) : Answer :=
  if 4 < v.toNat then .refused
  else if v == 0 || markIs s.engine.storeMark v then .taken
  else
    match s.storeVerdict (slotProfile v) with
    | .inProgress => .busy
    | .axisBusy _ => .refused
    | .free => .taken

/-- A taken write of SEAT STORE (R107). -/
def Ev.storeTake (e : Ev) (v : Word) : Ev :=
  if v == 0 || markIs e.engine.storeMark v then e
  else (e.setEngine { e.engine with storeMark := some ⟨v.toNat, false⟩ }).takeStore (slotProfile v) true

/-- A refused write of SEAT STORE: the engine's own entry (R95). -/
def Ev.storeRefuse (e : Ev) (v : Word) : Ev :=
  if 4 < v.toNat then e
  else
    match e.storeVerdict (slotProfile v) with
    | .axisBusy i => e.storeBusy (slotProfile v) i.val
    | .inProgress | .free => e

/-- The RECALL_STATE slot (R108). -/
def State.recallStateWord (s : State) : Word :=
  let r := s.engine.plan
  let st := match r.state with
    | .idle => 0
    | .reading => 1
    | .running k => 2 + 8 * k.val
    | .aborting => 3
    | .done => 4
  let prof := match r.profile with
    | some n => n.val + 1
    | none => 0
  let res := match r.result with
    | .none => 0
    | .complete => 1
    | .aborted => 2
    | .refused => 3
  toWord (st + 32 * prof + 256 * res + 1024 * recallCauseCode r.cause + 16384 * bit r.queued.isSome)

/-- The RECALL_LEGS slot (R108). -/
def State.recallLegsWord (s : State) : Word :=
  let n := fun (o : LegOutcome) => (s.engine.plan.legs.filter (fun l => l.outcome == some o)).length
  toWord (4096 * n .done + 256 * n .skipped + 16 * n .failed + n .cancelled)

end Sys2Proof.Machine
end

