-- ==== Sys2Proof/Machine/Panel.lean ====
section
/-! DEFINITION. The panel scanner (06_switch_panel.md): debounce, the key-down set, the panel state, and what the
key functions hand to the other jobs. -/

namespace Sys2Proof.Machine

/-- The scanner's state replaced within an event. -/
def Ev.setPanel (e : Ev) (p : Panel) : Ev := { e with panel := p }

/-- What a key map word means (R188). -/
inductive KeyFunction
  | none
  | jog (i : Fin 8) (d : Dir)
  | memory (n : Fin 4)
  | set
  | massage
  | lumbar (up : Bool)
  | climate (z : Fin 6)
  deriving DecidableEq, Repr

/-- The key function of a key map word; none where the word is no defined function (R188). -/
def keyFunction (w : Word) : Option KeyFunction :=
  if w == absent then some .none
  else
    match hi w with
    | 0 => some .none
    | 1 => some (.jog (Fin.ofNat 8 (lo w)) (if w.getLsbD 4 then .downBack else .upForward))
    | 2 => some (.memory 0)
    | 3 => some (.memory 1)
    | 4 => some (.memory 2)
    | 5 => some .set
    | 6 => some .massage
    | 7 => some (.lumbar true)
    | 8 => some (.lumbar false)
    | 9 => if lo w < 4 then some (.climate (Fin.ofNat 6 (lo w))) else none
    | 10 => if lo w == 4 || lo w == 5 then some (.climate (Fin.ofNat 6 (lo w))) else none
    | _ => none

/-- The word of a key function. R188 has "the same word" as its code and ignores the argument byte of a kind without an
argument; that byte, like the bits of a JOG argument that are not assigned, is written as 0 (R189; log entry 11). -/
def KeyFunction.code : KeyFunction → Word
  | .none => 0
  | .jog i .upForward => bytes 1 i.val
  | .jog i .downBack => bytes 1 (16 + i.val)
  | .memory n => bytes (2 + n.val) 0
  | .set => bytes 5 0
  | .massage => bytes 6 0
  | .lumbar true => bytes 7 0
  | .lumbar false => bytes 8 0
  | .climate z => bytes (if z.val < 4 then 9 else 10) z.val

/-- The function of a key under the key map in force in the event of its dispatch (R113). -/
def State.keyFn (s : State) (k : Fin 30) : KeyFunction := (keyFunction s.conf.keyMap[k]).getD .none

/-- The down count (R112). -/
def State.downCount (s : State) : Nat := (s.panel.keys.toList.filter (·.down)).length

/-- The crash part of the disable condition (R114). -/
def State.crashDisables (s : State) : Bool :=
  s.crash.state == .pulling || s.crash.state == .holding || s.crash.state == .locked

/-- The disable condition (R114). -/
def State.disableCondition (s : State) : Bool := !s.panel.enabled || s.crashDisables || !s.working

/-- The panel state (R114). -/
def State.panelState (s : State) : PanelState :=
  if s.disableCondition then .disabled else if s.panel.ambiguous then .ambiguous else .normal

/-- The class PANEL is in the notify mask in force: the entry is made (R113). -/
def Ev.panelEntry (e : Ev) (code : EntryCode) (subject detail : Word) : Ev :=
  if e.conf.notify.getLsbD 4 then e.hand code subject detail else e

/-- The entry of a dispatched key event, with the key function as detail (R113, R188). -/
def Ev.keyEntry (e : Ev) (code : EntryCode) (k : Fin 30) : Ev :=
  e.panelEntry code (toWord k.val) (e.keyFn k).code

/-- The scanner withdraws everything it has started (R115). -/
def Ev.withdrawPanel (e : Ev) : Ev :=
  let e := allAxes.foldl (fun e i => if (e.axisConf i).fitted then e.stopRequest i .panel else e) e
  let e := e.panel.members.foldl (fun e m =>
    match m.pressed, e.keyFn m.key with
    | true, .memory _ => e.memoryReleased m.key
    | _, _ => e) e
  e.setPanel { e.panel with
    storeWindow := none, conflict := Vector.replicate 8 false,
    members := e.panel.members.map (fun m => { m with pressed := false, holdAt := none }) }

/-- The panel state is formed anew (R114); leaving NORMAL withdraws (R115). -/
def Ev.panelSync (e : Ev) : Ev :=
  let was := e.panel.shown
  let e := e.setPanel { e.panel with shown := e.panelState }
  if was == .normal && e.panel.shown != .normal then e.withdrawPanel else e

/-! ## Dispatch (R113, R116 to R120) -/

/-- Another member with its press mark set carries a function. -/
def State.pressedElsewhere (s : State) (k : Fin 30) (f : KeyFunction) : Bool :=
  s.panel.members.any (fun m => m.pressed && m.key != k && s.keyFn m.key == f)

/-- What a PRESS of a JOG key sends to its axis (R116, R117). -/
def Ev.jogAxis (e : Ev) (k : Fin 30) (i : Fin 8) (d : Dir) : Ev :=
  if e.panel.conflict[i] || e.pressedElsewhere k (.jog i d.opp) then
    let e := e.setPanel { e.panel with conflict := e.panel.conflict.set i true }
    e.stopRequest i .panel
  else e.startRequest i ⟨.panel, .jog d⟩

/-- A PRESS of a JOG key of a fitted axis (R116, R117). Where the axis runs for the recall that the press aborts, the
abort and the preemption may be taken in either order (R105; log entry 4). Elsewhere the abort, with its legs' stops and
releases, is taken before the start request: DESIGN CHOICE, since R116 gives no order (log entry 33). The JOG key of an unfitted axis
hands nothing (R113), and leaves the conflict mark of the axis clear: DESIGN CHOICE (log entry 43). -/
def Ev.pressJog (e : Ev) (k : Fin 30) (i : Fin 8) (d : Dir) : Ev :=
  if !(e.axisConf i).fitted then e
  else
    let abort := fun (e : Ev) => e.abortRecall .panelKey
    let jog := fun (e : Ev) => e.jogAxis k i d
    if e.recallAbortable && e.axes[i].mover == some .recall then e.either abort jog else jog (abort e)

/-- A PRESS of a memory key (R118). -/
def Ev.pressMemory (e : Ev) (k : Fin 30) (n : Fin 4) : Ev :=
  if e.panel.storeWindow.isSome then (e.setPanel { e.panel with storeWindow := none }).panelStore n
  else e.recallRequest n (.panel k)

/-- A PRESS of the MASSAGE key (R120). -/
def Ev.pressMassage (e : Ev) : Ev :=
  let m := e.air.massage
  match m.state with
  | .off => e.massageStart m.lastPattern m.lastIntensity
  | .fetching | .running => e.massageStop
  | .ending => e

/-- A PRESS closes the store window unless its function is SET or a memory function (R118). -/
def Ev.closeWindow (e : Ev) : Ev := e.setPanel { e.panel with storeWindow := none }

/-- A PRESS is dispatched (R113). -/
def Ev.press (e : Ev) (k : Fin 30) : Ev :=
  let e := match e.keyFn k with
    | .none => e.closeWindow
    | .jog i d => e.closeWindow.pressJog k i d
    | .memory n => e.pressMemory k n
    | .set => e.setPanel { e.panel with storeWindow := some (e.now + ms 5000) }
    | .massage => e.closeWindow.pressMassage
    | .lumbar up => e.closeWindow.lumbarStep up
    | .climate z => e.closeWindow.panelLevel z
  e.keyEntry .press k

/-- A RELEASE is dispatched (R113); the key has left the set. -/
def Ev.release (e : Ev) (k : Fin 30) : Ev :=
  let e := match e.keyFn k with
    | .jog i d =>
      if (e.axisConf i).fitted && !e.pressedElsewhere k (.jog i d) then e.stopRequest i .panel else e
    | .memory _ => e.memoryReleased k
    | .none | .set | .massage | .lumbar _ | .climate _ => e
  e.keyEntry .release k

/-- A hold timer expires: HOLD once, and the repeat of a lumbar key (R112, R119). -/
def Ev.keyHold (e : Ev) (k : Fin 30) : Ev :=
  match e.panel.members.find? (fun m => m.key == k && m.pressed) with
  | none => e
  | some m =>
    match m.holdAt with
    | none => e
    | some t =>
      let e := e.due t
      let put := fun (e : Ev) (next : Option Nat) => e.setPanel { e.panel with
        members := e.panel.members.map (fun x => if x.key == k then { x with holdAt := next, held := true } else x) }
      let e := match e.keyFn k with
        | .lumbar up => (put e (some (e.now + ms e.conf.longPress))).lumbarStep up
        | .none | .jog _ _ | .memory _ | .set | .massage | .climate _ => put e none
      if m.held then e else e.keyEntry .hold k

/-- The store window's timer expires (R118). -/
def Ev.windowExpiry (e : Ev) : Ev :=
  match e.panel.storeWindow with
  | none => e
  | some t => (e.due t).closeWindow

/-! ## Line samples (R110 to R112) -/

/-- One key of the sampled line (R111): the key after the sample, and whether it changed. -/
def Key.sampled (x : Key) (count : Nat) (closed : Bool) : Key × Bool :=
  if closed == x.down then ({ x with run := 0 }, false)
  else if count ≤ x.run + 1 then ({ down := closed, run := 0 }, true)
  else ({ x with run := x.run + 1 }, false)

/-- The keys of a line, ascending. -/
def lineKeys (l : Fin 5) : List (Fin 6 × Fin 30) :=
  let key := fun (j : Fin 6) => (j, (⟨6 * l.val + j.val, by omega⟩ : Fin 30))
  [key 0, key 1, key 2, key 3, key 4, key 5]

/-- The keys of the line are debounced; the changed keys are gathered. -/
def debounceLine (count : Nat) (closed : BitVec 6) (l : Fin 5) (keys : Vector Key 30) :
    Vector Key 30 × List (Fin 30) :=
  (lineKeys l).foldl (fun (acc : Vector Key 30 × List (Fin 30)) jk =>
    let r := acc.1[jk.2].sampled count (closed.getLsbD jk.1.val)
    (acc.1.set jk.2 r.1, if r.2 then acc.2 ++ [jk.2] else acc.2)) (keys, [])

/-- A key that changed to UP leaves the set (R112, step 1). -/
def Ev.keyUp (e : Ev) (k : Fin 30) : Ev :=
  match e.panel.members.find? (fun m => m.key == k) with
  | none => e
  | some m =>
    let e := e.setPanel { e.panel with members := e.panel.members.filter (fun x => x.key != k) }
    if m.pressed then e.release k else e

/-- A member carries a JOG function of an axis. -/
def State.jogMember (s : State) (i : Fin 8) : Bool :=
  s.panel.members.any (fun m => match s.keyFn m.key with
    | .jog j _ => j == i
    | .none | .memory _ | .set | .massage | .lumbar _ | .climate _ => false)

/-- Conflict marks clear when the set holds no JOG key of their axis (R117). -/
def Ev.clearConflicts (e : Ev) : Ev :=
  let c := allAxes.foldl (fun (v : Vector Bool 8) (i : Fin 8) => v.set i (v[i] && e.jogMember i)) e.panel.conflict
  e.setPanel { e.panel with conflict := c }

/-- A key that changed to DOWN joins the set (R112, step 4). -/
def Ev.keyDown (e : Ev) (k : Fin 30) : Ev :=
  if e.panel.ambiguous then e
  else if e.panel.shown == .normal then
    (e.setPanel { e.panel with
      members := e.panel.members ++ [⟨k, true, some (e.now + ms e.conf.longPress), false⟩] }).press k
  else e.setPanel { e.panel with members := e.panel.members ++ [⟨k, false, none, false⟩] }

/-- Three or more keys are down (R112 step 3, R115). -/
def Ev.ambiguity (e : Ev) (downs : List (Fin 30)) : Ev :=
  let was := e.panel.shown
  let e := (e.setPanel { e.panel with ambiguous := true }).panelSync
  let e := e.setPanel { e.panel with members := [] }
  match was, e.panel.shown, downs with
  | .normal, .ambiguous, k :: _ => e.panelEntry .ambiguous (toWord k.val) (toWord e.downCount)
  | _, _, _ => e

/-- The key changes of a line sample (R112). Keys that went UP are taken in ascending order, as the rule has it for keys
that went DOWN, and conflict marks clear (R117) after the keys that went UP and before those that went DOWN: the rules
give no such order (log entry 33). -/
def Ev.keyChanges (e : Ev) (changed : List (Fin 30)) : Ev :=
  let ups := changed.filter (fun k => !e.panel.keys[k].down)
  let downs := changed.filter (fun k => e.panel.keys[k].down)
  let e := (ups.foldl Ev.keyUp e).clearConflicts
  if 3 ≤ e.downCount then e.ambiguity downs
  else
    let e := if e.downCount == 0 then (e.setPanel { e.panel with ambiguous := false }).panelSync else e
    downs.foldl Ev.keyDown e

/-- A line sample at the end of a scan dwell, under the debounce count in force (R110, R111). -/
def Ev.lineSample (e : Ev) (closed : BitVec 6) : Ev :=
  let p := e.panel
  let e := e.due (p.lineSince + ms p.dwell)
  let r := debounceLine e.conf.debounce closed p.line p.keys
  let next : Fin 5 := p.line + 1
  let e := e.setPanel { p with keys := r.1, line := next, lineSince := e.now,
                               dwell := if next == 0 then e.conf.scanDwell else p.dwell }
  if r.2.isEmpty then e else e.keyChanges r.2

/-! ## A new configuration and the slots (R121, R122) -/

/-- The scanner's answer to a new configuration (R122). The key map, debounce count and long-press time are those of the
configuration in force at each line sample and dispatch (R111, R113), a new scan dwell waits for the next scan (R110); R42
gives the same in summary (log entry 34). -/
def Ev.panelApply (e : Ev) : Ev :=
  e.setPanel { e.panel with members := [], conflict := Vector.replicate 8 false, storeWindow := none }

/-- The answer of PANEL_ENABLE (R121). -/
def panelAnswer (v : Word) : Answer := if 1 < v.toNat then .refused else .taken

/-- A taken write of PANEL_ENABLE (R121). -/
def Ev.panelTake (e : Ev) (v : Word) : Ev := (e.setPanel { e.panel with enabled := v != 0 }).tell .panel

/-- Codes of section 11.3. -/
def panelStateCode : PanelState → Nat
  | .normal => 0
  | .ambiguous => 1
  | .disabled => 2

/-- The PANEL_STATE slot (R121). -/
def State.panelStateWord (s : State) : Word :=
  toWord (panelStateCode s.panelState + 4 * bit (!s.panel.enabled) + 8 * bit s.crashDisables +
    32 * bit s.panel.ambiguous + 64 * bit s.panel.storeWindow.isSome + 256 * s.downCount)

/-- A member's byte of the PANEL_KEYS slot (R121). -/
def memberByte : Option Member → Nat
  | none => 0xFF
  | some m => m.key.val + 32 * bit (!m.pressed)

/-- The PANEL_KEYS slot (R121). -/
def State.panelKeysWord (s : State) : Word := bytes (memberByte s.panel.members[0]?) (memberByte s.panel.members[1]?)

end Sys2Proof.Machine
end

