-- ==== Sys2Proof/Machine/Decoding.lean ====
section
/-! DEFINITION. The examination of a configuration block and the settled configuration
(02_configuration_block_and_start_up.md sections 2.1 and 2.3, section 11.2): R28, R30 to R32, R188. -/

namespace Sys2Proof.Machine

/-! ## Settling (R32) -/

/-- A number brought into a range. -/
def clampNat (l h n : Nat) : Nat := max l (min h n)

/-- A numeric field: the absent value takes the default, or the upper end where there is none; any other value
the nearer end of the range. -/
def settle (absentValue l h : Nat) (dflt : Option Nat) (n : Nat) : Nat :=
  if n == absentValue then dflt.getD h else clampNat l h n

/-- A numeric word field. -/
def settleWord (l h : Nat) (dflt : Option Nat) (w : Word) : Nat := settle 0xFFFF l h dflt w.toNat

/-- A numeric byte field (R188). -/
def settleByte (l h : Nat) (dflt : Option Nat) (b : Nat) : Nat := settle 0xFF l h dflt b

def dirOf (b : Nat) : Dir := if b == 1 then .downBack else .upForward

def pinchOf (b : Nat) : PinchDirs :=
  if b == 1 then .upForward else if b == 2 then .downBack else if b == 3 then .both else .none

/-- Default roles of the chambers (section 2.1). -/
def defaultRole (c : Fin 12) : ChamberRole := if c.val < 4 then .shared else if c.val < 8 then .posture else .massage

def roleOf (c : Fin 12) (b : Nat) : ChamberRole :=
  if b == 0 then .posture else if b == 1 then .massage else if b == 2 then .shared else defaultRole c

def crashRoleOf (b : Nat) : ChamberCrash := if b == 1 then .inflate else if b == 2 then .vent else .none

/-! ## The fields (section 11.2) -/

/-- Word `k` of a candidate. -/
def cand (ws : List Word) (k : Nat) : Word := ws.getD k 0

/-- A window word holds address bits 17:2 (R188). -/
def windowWord (w : Word) : Addr := toAddr (w.toNat * 4)

/-- Place of a region among the windows. -/
def regionIndex : Region → Nat
  | .seat => 0
  | .axis => 1
  | .air => 2
  | .climate => 3
  | .profile => 4
  | .journal => 5

/-- The window pair of a region. -/
def windowOf (ws : List Word) (r : Region) : Window :=
  ⟨windowWord (cand ws (2 + 2 * regionIndex r)), windowWord (cand ws (3 + 2 * regionIndex r))⟩

/-- An axis descriptor. The fields of check 4 are taken as they stand. -/
def axisOf (ws : List Word) (i : Fin 8) : AxisConf :=
  let w := fun k => cand ws (14 + 8 * i.val + k)
  { fitted := hi (w 0) == 1, crashDir := dirOf (lo (w 0)), stroke := (w 1).toNat, thermalLimit := (w 2).toNat,
    crashTarget := (w 3).toNat, current := hi (w 4), pinchThreshold := settleByte 1 40 (some 4) (lo (w 4)),
    stallWindow := settleByte 20 200 (some 60) (hi (w 5)), rank := settleByte 0 3 (some 3) (lo (w 5)),
    backOff := settleWord 0 1000 (some 200) (w 6), pinchDirs := pinchOf (hi (w 7)), crashPull := lo (w 7) == 1 }

/-- A chamber descriptor. -/
def chamberOf (ws : List Word) (c : Fin 12) : ChamberConf :=
  let w := fun k => cand ws (78 + 4 * c.val + k)
  let top := settleWord 10 600 none (w 1)
  { fitted := hi (w 0) == 1, role := roleOf c (lo (w 0)), maxPressure := top, crashRole := crashRoleOf (hi (w 2)),
    leakTolerance := settleByte 1 100 (some 20) (lo (w 2)), crashPressure := settleWord 0 top (some 0) (w 3) }

/-- The code NO_PAIR. -/
def noPair : Nat := 0x80

/-- Default pairs (section 2.1): 0 with 4, 2 with 5. -/
def defaultPair (z : Fin 6) : Nat :=
  match z with
  | 0 => 4
  | 4 => 0
  | 2 => 5
  | 5 => 2
  | _ => noPair

/-- The paired zone of a zone as a code: 0 to 5, NO_PAIR, or an undefined code, which check 8 finds (log entry
10). -/
def pairCode (ws : List Word) (z : Fin 6) : Nat :=
  let b := lo (cand ws (127 + 9 * z.val + 7))
  if b == 0xFF then defaultPair z else b

/-- A zone descriptor. -/
def zoneOf (ws : List Word) (z : Fin 6) : ZoneConf :=
  let w := fun k => cand ws (127 + 9 * z.val + k)
  let t := fun (k heater fan : Nat) =>
    if z.val < 4 then settleWord 200 600 (some heater) (w k) else settleWord 20 100 (some fan) (w k)
  let p := pairCode ws z
  { fitted := hi (w 0) == 1, current := settleByte 1 40 none (lo (w 0)), target1 := t 1 320 40, target2 := t 2 370 70,
    target3 := t 3 420 100, overTemp := settleWord 300 800 (some 650) (w 4),
    ntcGain := settleByte 1 255 (some 26) (hi (w 5)), confirm := settleByte 3 15 (some 5) (lo (w 5)),
    ntcOffset := settleWord 0 65534 (some 6680) (w 6), mask := BitVec.ofNat 5 (hi (w 7)),
    pair := if h : p < 6 then some ⟨p, h⟩ else none, stepDown := settleByte 0 120 (some 30) (hi (w 8)) }

/-- A key map word; the absent value reads as NONE. -/
def keyWord (w : Word) : Word := if w == absent then 0 else w

/-- The configuration a block gives (R32). The fields of checks 4, 5 and 8 stand as they are. -/
def confOf (ws : List Word) : Conf :=
  { holdLimit := settleWord 2 60 (some 20) (cand ws 1),
    windows := ⟨windowOf ws .seat, windowOf ws .axis, windowOf ws .air, windowOf ws .climate, windowOf ws .profile,
      windowOf ws .journal⟩,
    axes := Vector.ofFn (axisOf ws), chambers := Vector.ofFn (chamberOf ws),
    pumpCurrent := settleWord 1 40 none (cand ws 126), zones := Vector.ofFn (zoneOf ws),
    totalCap := (cand ws 181).toNat, motorCap := (cand ws 182).toNat, reducedCap := (cand ws 183).toNat,
    sagThreshold := settleWord 60 110 (some 90) (cand ws 184),
    keyMap := Vector.ofFn (fun (k : Fin 30) => keyWord (cand ws (185 + k.val))),
    scanDwell := settleWord 1 8 (some 2) (cand ws 215), debounce := settleWord 2 7 (some 3) (cand ws 216),
    longPress := settleWord 200 3000 (some 800) (cand ws 217),
    recallMode := if (cand ws 218).toNat == 1 then .holdToRun else .oneTouch,
    massageSession := settleWord 1 30 (some 15) (cand ws 219), armHold := settleWord 5 100 (some 30) (cand ws 220),
    pullLimit := settleWord 20 300 (some 150) (cand ws 221), crashHold := settleWord 1 60 (some 10) (cand ws 222),
    notify := BitVec.ofNat 7 (cand ws 223).toNat }

/-! ## The checks (R30, R31) -/

/-- What a failed check names: the reason and the item. -/
abbrev Failure := Reason × Option Nat

/-- Minimum sizes (R31). -/
def minimumSize : Region → Nat
  | .seat => 64
  | .axis => 128
  | .air => 1024
  | .climate => 64
  | .profile => 128
  | .journal => 512

/-- Words of a window. -/
def Window.size (w : Window) : Nat := 0x40000 - w.mask.toNat

/-- The mask is a run of ones from bit 17 downward. -/
def maskRun (m : Addr) : Bool := (List.range 18).any (fun k => m.toNat + 2 ^ k == 0x40000)

/-- A window is well formed on its own: mask, base, minimum size, and clear of the configuration block. -/
def Window.goodAlone (w : Window) (r : Region) : Bool :=
  maskRun w.mask && w.base &&& ~~~w.mask == 0 && decide (minimumSize r ≤ Window.size w) &&
    decide (w.base.toNat + Window.size w ≤ 0x3FF00)

/-- Two windows share an address. -/
def Window.meets (a b : Window) : Bool :=
  decide (a.base.toNat < b.base.toNat + Window.size b) && decide (b.base.toNat < a.base.toNat + Window.size a)

/-- The regions before a region in the order of R31. -/
def regionsBefore (r : Region) : List Region :=
  [Region.seat, .axis, .air, .climate, .profile, .journal].take (regionIndex r)

/-- Check 3. -/
def windowFailure (k : Conf) : Option Failure :=
  ([Region.seat, .axis, .air, .climate, .profile, .journal].find? (fun r =>
    !Window.goodAlone (k.windows.of r) r ||
      (regionsBefore r).any (fun q => Window.meets (k.windows.of q) (k.windows.of r)))).map
    (fun r => (.badWindow, some (regionIndex r)))

/-- A number lies in a range. -/
def within (l h n : Nat) : Bool := decide (l ≤ n) && decide (n ≤ h)

/-- Check 4 for one axis. -/
def axisGood (a : AxisConf) : Bool :=
  !a.fitted || (within 100 60000 a.stroke && within 1 40 a.current && within 1 60000 a.thermalLimit &&
    (!a.crashPull || decide (a.crashTarget ≤ a.stroke)))

/-- Check 4. -/
def axisFailure (k : Conf) : Option Failure :=
  (allAxes.find? (fun i => !axisGood k.axes[i])).map (fun i => (.badAxis, some i.val))

/-- Check 5. -/
def capFailure (k : Conf) : Option Failure :=
  if within 20 120 k.totalCap && within 1 120 k.motorCap && within 1 120 k.reducedCap &&
      decide (k.motorCap ≤ k.totalCap) && decide (k.reducedCap ≤ k.totalCap) then none
  else some (.badCap, none)

/-- Check 6. -/
def crashLoadFailure (k : Conf) : Option Failure :=
  if k.totalCap < crashLoads k then some (.badCrashLoad, none) else none

def allKeys : List (Fin 30) := List.finRange 30

/-- A key's entry is undefined, or two keys before it already have its function. -/
def keyBad (m : Vector Word 30) (k : Fin 30) : Bool :=
  match keyFunction m[k] with
  | none => true
  | some .none => false
  | some f => decide (2 ≤ (allKeys.filter (fun j => decide (j < k) && keyFunction m[j] == some f)).length)

/-- Check 7. -/
def keymapFailure (k : Conf) : Option Failure :=
  (allKeys.find? (keyBad k.keyMap)).map (fun x => (.badKeymap, some x.val))

/-- Check 8 for one zone. -/
def pairGood (ws : List Word) (k : Conf) (z : Fin 6) : Bool :=
  !k.zones[z].fitted || pairCode ws z == noPair ||
    (match k.zones[z].pair with
     | some p => (decide (z.val < 4) != decide (p.val < 4)) && k.zones[p].fitted && k.zones[p].pair == some z
     | none => false)

/-- Check 8. -/
def pairFailure (ws : List Word) (k : Conf) : Option Failure :=
  (allZones.find? (fun z => !pairGood ws k z)).map (fun z => (.badPairing, some z.val))

/-- The first check that fails, in the order of R30. -/
def failure (ws : List Word) : Option Failure :=
  let k := confOf ws
  if cand ws 255 != checkWord tagConfig (ws.take 255) then some (.badCheck, none)
  else if (cand ws 0).toNat != 0xE716 then some (.badFormat, none)
  else
    (windowFailure k).or ((axisFailure k).or ((capFailure k).or ((crashLoadFailure k).or
      ((keymapFailure k).or (pairFailure ws k)))))

end Sys2Proof.Machine
end

