-- ==== Sys2Proof/Machine/Operands.lean ====
section
/-! DEFINITION. Where an address falls (01_the_memory_path.md sections 1.1, 1.2 and 1.5, section 11.3): windows,
slot maps, kinds, units, and what the guards cover. -/

namespace Sys2Proof.Machine

/-- An address hits a window (R1). -/
def windowHits (w : Window) (a : Addr) : Bool := a &&& w.mask == w.base &&& w.mask

/-- The offset of an address in a window (R1). -/
def windowOffset (w : Window) (a : Addr) : Nat := (a &&& ~~~w.mask).toNat

/-- The entry of a region in a window table. -/
def tableEntry (t : WindowTable) (r : Region) : Option Window :=
  match r with
  | .seat => t.seat
  | .axis => t.axis
  | .air => t.air
  | .climate => t.climate
  | .profile => t.profile
  | .journal => t.journal

def allRegions : List Region := [.seat, .axis, .air, .climate, .profile, .journal]

/-- The region an address hits, with its offset (R1). -/
def locate (t : WindowTable) (a : Addr) : Option (Region × Nat) :=
  allRegions.findSome? (fun r => match tableEntry t r with
    | some w => if windowHits w a then some (r, windowOffset w a) else none
    | none => none)

/-- The STATUS slots. -/
inductive StatusSlot
  | configState
  | recallState
  | recallLegs
  | panelState
  | panelKeys
  | budgetGranted
  | budgetCap
  | budgetWaiting
  | position (i : Fin 8)
  | axisState (i : Fin 8)
  | axisCause (i : Fin 8)
  | axisThermal (i : Fin 8)
  | pressure (c : Fin 12)
  | chamberState (c : Fin 12)
  | temperature (z : Fin 6)
  | zoneState (z : Fin 6)
  | zoneFault (z : Fin 6)
  deriving DecidableEq, Repr

/-- The kinds of a slot (section 1.2). -/
inductive SlotKind
  | control (c : CSlot)
  | status (q : StatusSlot)
  | record (report : Report)
  | owned
  | free
  deriving DecidableEq, Repr

/-- The unit a slot belongs to (R9). -/
inductive SlotUnit
  | none
  | axis (i : Fin 8)
  | chamber (c : Fin 12)
  | zone (z : Fin 6)
  deriving DecidableEq, Repr

/-- The SEAT slot map. -/
def seatKind (off : Nat) : SlotKind :=
  match off with
  | 0 => .control .recall
  | 1 => .control .store
  | 2 => .control .massage
  | 3 => .control .panelEnable
  | 4 => .control .crashClear
  | 5 => .owned
  | 6 => .status .configState
  | 7 => .status .recallState
  | 8 => .status .recallLegs
  | 9 => .status .panelState
  | 10 => .status .panelKeys
  | 11 => .status .budgetGranted
  | 12 => .status .budgetCap
  | 13 => .status .budgetWaiting
  | _ => .free

/-- The 16 words of an axis. -/
def axisKind (i : Fin 8) (word : Nat) : SlotKind :=
  match word with
  | 0 => .control (.axTarget i)
  | 1 => .control (.axJog i)
  | 2 => .control (.axDuty i)
  | 3 => .control (.axLimitLo i)
  | 4 => .control (.axLimitHi i)
  | 5 => .status (.position i)
  | 6 => .status (.axisState i)
  | 7 => .status (.axisCause i)
  | 8 => .status (.axisThermal i)
  | 9 | 10 | 11 => .owned
  | _ => .free

/-- The 4 words of a chamber. -/
def chamberKind (c : Fin 12) (word : Nat) : SlotKind :=
  match word with
  | 0 => .control (.airTarget c)
  | 1 => .status (.pressure c)
  | 2 => .status (.chamberState c)
  | _ => .free

/-- The 8 words of a zone. -/
def zoneKind (z : Fin 6) (word : Nat) : SlotKind :=
  match word with
  | 0 => .control (.level z)
  | 1 => .status (.temperature z)
  | 2 => .status (.zoneState z)
  | 3 => .status (.zoneFault z)
  | _ => .free

/-- The kind of a slot and the unit it belongs to, by region and offset (section 11.3). Beyond the slot map:
FREE, of no unit (R2). -/
def slotMap (r : Region) (off : Nat) : SlotKind × SlotUnit :=
  match r with
  | .seat => (seatKind off, .none)
  | .axis =>
    if h : off < 128 then
      let i : Fin 8 := ⟨off / 16, by omega⟩
      (axisKind i (off % 16), .axis i)
    else (.free, .none)
  | .air =>
    if h : off < 48 then
      let c : Fin 12 := ⟨off / 4, by omega⟩
      (chamberKind c (off % 4), .chamber c)
    else if 64 ≤ off && off ≤ 831 then (.record .none, .none)
    else (.free, .none)
  | .climate =>
    if h : off < 48 then
      let z : Fin 6 := ⟨off / 8, by omega⟩
      (zoneKind z (off % 8), .zone z)
    else (.free, .none)
  | .profile =>
    if h : off < 128 then
      (.record (if off % 32 == 31 then .profile ⟨off / 32, by omega⟩ else .none), .none)
    else (.free, .none)
  | .journal =>
    if off == 1 then (.control .readIndex, .none)
    else if off ≤ 3 then (.owned, .none)
    else if 16 ≤ off && off ≤ 271 then (.owned, .none)
    else (.free, .none)

/-- The unit is fitted under the configuration in force. -/
def State.unitFitted (s : State) (u : SlotUnit) : Bool :=
  match u with
  | .none => true
  | .axis i => (s.axisConf i).fitted
  | .chamber c => (s.chamberConf c).fitted
  | .zone z => (s.zoneConf z).fitted

/-- The lowest address of the configuration block, and the configuration check word. -/
def configBase : Nat := 0x3FF00
def configCheck : Addr := 0x3FFFF

/-- An address of the configuration block. -/
def inConfig (a : Addr) : Bool := decide (configBase ≤ a.toNat)

/-- Where an upstream access falls: the questions of R2 but for the guards. -/
inductive Place
  | config
  | outside
  | slot (r : Region) (kind : SlotKind) (u : SlotUnit)
  deriving DecidableEq, Repr

/-- The place of an address under the window table in force (R2). -/
def State.placeOf (s : State) (a : Addr) : Place :=
  if inConfig a then .config
  else
    match locate s.path.table a with
    | none => .outside
    | some (r, off) => .slot r (slotMap r off).1 (slotMap r off).2

/-- A CONTROL slot the crash guard covers (R21). -/
def CSlot.crashCovered : CSlot → Bool
  | .recall | .store | .massage => true
  | .panelEnable | .crashClear => false
  | .axTarget _ | .axJog _ | .axDuty _ | .axLimitLo _ | .axLimitHi _ => true
  | .airTarget _ => true
  | .level _ => false
  | .readIndex => false

/-- What the crash guard covers (R21). -/
def Place.crashCovered : Place → Bool
  | .config => true
  | .outside => false
  | .slot _ (.control c) _ => c.crashCovered
  | .slot .profile (.record _) _ => true
  | .slot _ _ _ => false

/-- The CONTROL slot at an address, if there is one and its unit is fitted. -/
def State.controlAt (s : State) (a : Addr) : Option CSlot :=
  match s.placeOf a with
  | .slot _ (.control c) u => if s.unitFitted u then some c else none
  | _ => none

/-- The report of a forwarded write at a place (R3, R4, R8). -/
def Place.report : Place → Report
  | .config => .config
  | .slot _ (.record r) _ => r
  | _ => .none

end Sys2Proof.Machine
end

