-- ==== Sys2Proof/Machine/Journal.lean ====
section
/-! DEFINITION. The journal writer (10_journal_and_attention_line.md): appends, header refreshes, recounts,
READ_INDEX, initialisation and a moved window. -/

namespace Sys2Proof.Machine

/-- The writer's state replaced within an event. -/
def Ev.setJournal (e : Ev) (j : Journal) : Ev := { e with journal := j }

/-- The address of a word of the JOURNAL region. -/
def journalAddr (k : Conf) (off : Nat) : Addr := regionAddr k .journal off

/-- The offset of entry i (section 11.3). -/
def entryOffset (i : Fin 64) : Nat := 16 + 4 * i.val

/-- Unread limits of a class (R182). -/
def unreadLimit (c : EntryClass) : Nat := if c == .crash then 64 else 60

/-- The class of a class code (section 11.4). -/
def classOfCode (n : Nat) : Option EntryClass :=
  match n with
  | 1 => some .crash
  | 2 => some .fault
  | 3 => some .refusal
  | 4 => some .motion
  | 5 => some .panel
  | 6 => some .config
  | 7 => some .link
  | _ => none

/-- The words of an entry (section 11.4). -/
def Entry.word (x : Entry) (k : Fin 4) : Word :=
  match k with
  | 0 => x.time
  | 1 => x.kind
  | 2 => x.subject
  | 3 => x.detail

/-- HEADER_CHECK over the writer's copy (R183). -/
def Journal.headerCheck (j : Journal) : Word :=
  checkWord tagJournal [toWord j.write.val, toWord j.read.val, toWord (bit j.overrun)]

/-- The entry being appended is of class CRASH (R182). -/
def Journal.urgentAppend (j : Journal) : Bool :=
  match j.staging with
  | x :: _ => x.code.cls == .crash
  | [] => false

/-- Offer HEADER_CHECK; the refresh mark clears if memory will hold the flag it covers (R182, R183, log
entry 12). -/
def Ev.offerHeaderCheck (e : Ev) (refresh : Bool) : Ev :=
  let j := e.journal
  let v := j.headerCheck
  let e := e.setJournal { j with work := some (.check refresh), refresh := j.refresh && j.memOverrun != j.overrun }
  e.offerWrite (if refresh then .headerRefresh else .append) (journalAddr e.conf 3) v (!refresh && j.urgentAppend)

/-- Offer OVERRUN, or HEADER_CHECK where memory already holds the flag (R182, R183). -/
def Ev.offerOverrun (e : Ev) (refresh : Bool) : Ev :=
  let j := e.journal
  if j.memOverrun == j.overrun then e.offerHeaderCheck refresh
  else
    (e.setJournal { j with work := some (.overrun refresh) }).offerWrite
      (if refresh then .headerRefresh else .append) (journalAddr e.conf 2) (toWord (bit j.overrun))
      (!refresh && j.urgentAppend)

/-- Offer one word of the entry being appended (R182). -/
def Ev.offerEntryWord (e : Ev) (x : Entry) (k : Fin 4) : Ev :=
  let j := e.journal
  (e.setJournal { j with work := some (.entryWord k), appending := true }).offerWrite .append
    (journalAddr e.conf (entryOffset j.write + k.val)) (x.word k) (x.code.cls == .crash)

/-- The writer takes the first thing to do: a header refresh, an admission, a recount read (R182). -/
def Ev.journalKick (e : Ev) : Ev :=
  let j := e.journal
  if j.ring != .ready || j.work.isSome then e
  else if j.refresh then e.offerOverrun true
  else
    match j.staging with
    | x :: rest =>
      if j.unread < unreadLimit x.code.cls then e.offerEntryWord x 0
      else (e.setJournal { j with staging := rest }.lose).tell .journal
    | [] =>
      match j.recount with
      | p :: _ =>
        (e.setJournal { j with work := some (.recount p) }).offerRead .recount
          (journalAddr e.conf (entryOffset p + 1))
      | [] => e

/-- Offer an initialising write (R34, R43). -/
def Ev.offerInit (e : Ev) (k : Fin 4) : Ev :=
  let v := if k == 3 then checkWord tagJournal [0, 0, 0] else 0
  (e.setJournal { e.journal with work := some (.init k) }).offerWrite .journalInit (journalAddr e.conf k.val) v false

/-- An initialisation begins: OPENING. -/
def Ev.beginInit (e : Ev) : Ev := (e.setJournal { e.journal with ring := .opening }).offerInit 0

/-- The ring is known: READY; an overrun mark is applied, and the refresh mark set with it (R180). R183 can be read as
setting the refresh mark at every end of OPENING; the model goes by R180 (log entry 12). -/
def Ev.ringKnown (e : Ev) (j : Journal) : Ev :=
  let j := { j with ring := .ready, work := none, overrun := j.overrun || j.overrunMark,
                    refresh := j.refresh || j.overrunMark, overrunMark := false }
  (e.setJournal j).tell .journal

/-- The places from `r` for `n` places on. -/
def ringPlaces (r : Fin 64) (n : Nat) : List (Fin 64) := (List.range n).map (fun k => Fin.ofNat 64 (r.val + k))

/-- The header words of start-up are handed to the writer (R180): whether it must initialise the ring. -/
def headerGood (w r o check : Word) : Bool :=
  check == checkWord tagJournal [w, r, o] && decide (w.toNat ≤ 63) && decide (r.toNat ≤ 63)

/-- The header words of start-up (R180, R185). -/
def Ev.headerRead (e : Ev) (w r o check : Word) : Ev :=
  if headerGood w r o check then
    let wi : Fin 64 := Fin.ofNat 64 w.toNat
    let ri : Fin 64 := Fin.ofNat 64 r.toNat
    let n := (w.toNat + 64 - r.toNat) % 64
    e.ringKnown { e.journal with write := wi, read := ri, overrun := o.getLsbD 0, memOverrun := o.getLsbD 0,
                                 unread := n, recount := ringPlaces ri n }
  else e.beginInit

/-- The last initialising write completes (R180). -/
def Ev.initDone (e : Ev) : Ev :=
  e.ringKnown { e.journal with write := 0, read := 0, overrun := false, memOverrun := false, unread := 0 }

/-- The entry being appended joins the ring (R182). -/
def Journal.join (j : Journal) : Journal :=
  match j.staging with
  | [] => j
  | x :: _ =>
    let c := x.code.cls
    { j with write := j.write + 1, unread := j.unread + 1, classes := j.classes.set j.write (some c),
             counts := j.counts.set c.index (j.counts[c.index] + 1) }

/-- A write of the writer completes; `v` is the value written (R182, R183). -/
def Ev.journalWritten (e : Ev) (v : Word) : Ev :=
  let j := e.journal
  if j.stale then (e.setJournal { j with stale := false, work := none }).offerInit 0
  else
    match j.work, j.staging with
    | some (.init k), _ => if k == 3 then e.initDone else e.offerInit (k + 1)
    | some (.entryWord k), x :: _ =>
      if k == 3 then
        (e.setJournal { j with work := some .index }).offerWrite .append (journalAddr e.conf 0)
          (toWord (j.write + 1).val) j.urgentAppend
      else e.offerEntryWord x (k + 1)
    | some .index, _ :: _ => (e.setJournal j.join).offerOverrun false
    | some (.overrun refresh), _ =>
      (e.setJournal { j with memOverrun := v != 0 }).offerHeaderCheck refresh
    | some (.check refresh), _ =>
      let j := { j with work := none }
      (e.setJournal (if refresh then j else { j with staging := j.staging.tail, appending := false })).tell .journal
    | _, _ => e

/-- A recount read completes (R185). -/
def Ev.recountRead (e : Ev) (w : Word) : Ev :=
  let j := e.journal
  if j.stale then (e.setJournal { j with stale := false, work := none }).offerInit 0
  else
    match j.work with
    | some (.recount p) =>
      let j := { j with work := none }
      let j :=
        if j.recount.contains p then
          let j := { j with recount := j.recount.filter (· != p) }
          match classOfCode (field w 12 4) with
          | some c => { j with classes := j.classes.set p (some c), counts := j.counts.set c.index (j.counts[c.index] + 1) }
          | none => j
        else j
      (e.setJournal j).tell .journal
    | _ => e

/-! ## READ_INDEX (R184) -/

/-- The number of entries a value would free. -/
def Journal.freed (j : Journal) (v : Word) : Nat := (v.toNat + 64 - j.read.val) % 64

/-- The answer of READ_INDEX. -/
def Journal.readAnswer (j : Journal) (v : Word) : Answer :=
  if j.ring != .ready || decide (63 < v.toNat) then .refused
  else if j.unread < j.freed v then .refused
  else .taken

/-- One place is freed. -/
def Journal.freePlace (j : Journal) (p : Fin 64) : Journal :=
  let j := { j with recount := j.recount.filter (· != p) }
  match j.classes[p] with
  | some c => { j with classes := j.classes.set p none, counts := j.counts.set c.index (j.counts[c.index] - 1) }
  | none => j

/-- A taken write of READ_INDEX. -/
def Ev.readTake (e : Ev) (v : Word) : Ev :=
  let j := e.journal
  let f := j.freed v
  if f == 0 then e
  else
    let j' := (ringPlaces j.read f).foldl Journal.freePlace j
    (e.setJournal { j' with read := Fin.ofNat 64 v.toNat, unread := j.unread - f, overrun := false,
                            refresh := true }).tell .journal

/-! ## A moved window (R43, R186) -/

/-- The journal window has moved (R186). An access that still waits for a place in the insert queue takes effect at the old
address too (log entry 23). -/
def Ev.journalMoved (e : Ev) : Ev :=
  let j := e.journal
  let e := e.setJournal { j with
    ring := .opening, unread := 0, classes := Vector.replicate 64 none, counts := Vector.replicate 7 0,
    recount := [], refresh := false, overrun := false, overrunMark := false, appending := false,
    stale := j.work.isSome }
  if j.work.isSome then e else e.offerInit 0

/-- The writer's answer to a new configuration. -/
def Ev.journalApply (old : Conf) (e : Ev) : Ev :=
  if old.windows.journal == e.conf.windows.journal then e else e.journalMoved

/-- ATTN is active (R185). -/
def State.attn (s : State) : Bool :=
  s.working && [0, 1, 2, 3, 4, 5, 6].any (fun (c : Fin 7) => s.conf.notify.getLsbD c.val && s.journal.counts[c] != 0)

end Sys2Proof.Machine
end

