-- ==== Sys2Proof/Machine/Crash.lean ====
section
/-! DEFINITION. The crash controller (09_crash_pull_forward_and_the_safety_link.md, sections 9.2 to 9.4): arming,
pull, holding, restoring, LOCKED, and the CRASH_CLEAR slot. -/

namespace Sys2Proof.Machine

/-- The crash controller's state replaced within an event. -/
def Ev.setCrash (e : Ev) (c : Crash) : Ev := { e with crash := c }

/-- Codes of section 11.5. -/
def crashCode : CrashState → Nat
  | .notReady => 0
  | .idle => 1
  | .armed => 2
  | .pulling => 3
  | .holding => 4
  | .restoring => 5
  | .locked => 6

/-- Codes of SEAT CRASH_RECORD (section 11.3). -/
def recordNone : Word := 0x0000
def recordLocked : Word := 0x00A5

/-- Offset of CRASH_RECORD in SEAT. -/
def crashRecordOffset : Nat := 5

/-! ## The order of things (log entry 4) -/

/-- The panel or a recall has something to withdraw, so that the order can matter (R105, R106, R115). -/
def State.contended (s : State) : Bool :=
  s.recallAbortable || s.panel.members.any (·.pressed) ||
    s.axes.toList.any (fun a => a.mover == some .panel || (match a.pending with
      | some r => r.mover == .panel
      | none => false))

/-! ## The guard and the spoil mark -/

/-- A guarded write is counted (R21, R179). -/
def Ev.countDrop (e : Ev) : Ev := e.setCrash { e.crash with drops := min 65535 (e.crash.drops + 1) }

/-- The value of a catch-up read pending for a covered slot will not be offered (R17). -/
def Ev.guardReads (e : Ev) : Ev :=
  let p := fun (c : Cycle) => c.purpose == Purpose.catchUp && (e.placeOf c.addr).crashCovered
  { e with ins := e.ins.discard p }

/-- The crash guard begins: a covered write that is held, or waits for the D-port, is dropped and counted
(R14, R17, R21). -/
def Ev.guardBegin (e : Ev) : Ev :=
  let e := e.guardReads
  match e.uport with
  | .held _ _ owner _ => if owner.crashCovered then { e with uport := .idle }.countDrop else e
  | .waiting (.write a _ _) =>
    if (e.placeOf a).crashCovered then { e with uport := .idle }.countDrop else e
  | .idle | .kept _ | .waiting (.read _) | .onPort _ _ => e

/-- A validation from ACTIVE in progress is spoiled (R38). -/
def Ev.spoilCrash (e : Ev) : Ev :=
  if e.cfg.state == .validating && e.cfg.origin == some .active then
    { e with cfg := { e.cfg with spoil := if e.cfg.spoil == .clear then .crash else e.cfg.spoil, restart := false } }
  else e

/-! ## Legs (R170, R172, R175) -/

/-- The goal of the crash leg of an axis. -/
def State.crashGoal (s : State) (i : Fin 8) : Goal :=
  if s.axes[i].referenced then .crashTo (s.axisConf i).crashTarget else .crashTime (s.axisConf i).crashDir

/-- The snapshot entry of an axis (R170). -/
def State.snapAxis (s : State) (i : Fin 8) : Option SnapAxis :=
  if !s.crashAxis i then none
  else if s.axes[i].referenced then some (.position s.axes[i].count)
  else some (.time 0 (s.axisConf i).crashDir)

/-- The snapshot entry of a chamber (R170). -/
def State.snapChamber (s : State) (c : Fin 12) : Option (Option Nat) :=
  if s.crashChamber c then some s.air.chambers[c].posture else none

/-- The pre-crash snapshot and the PULL leg set are formed anew (R170). -/
def Ev.takeSnapshot (e : Ev) : Ev :=
  let axes := allAxes.foldl (fun (v : Vector (Option SnapAxis) 8) (i : Fin 8) => v.set i (e.snapAxis i))
    (Vector.replicate 8 none)
  let chambers := allChambers.foldl (fun (v : Vector (Option (Option Nat)) 12) (c : Fin 12) => v.set c (e.snapChamber c))
    (Vector.replicate 12 none)
  let legs := (allAxes.filter e.crashAxis).map (fun i =>
    CrashLeg.mk i e.axes[i].referenced .requested none false)
  e.setCrash { e.crash with snapAxes := axes, snapChambers := chambers, kind := .pull, legs := legs }

/-- The outcome of a crash leg (R172). -/
def crashOutcome (position : Bool) : StopCause → CrashOutcome
  | .reached => .done
  | .crashTime | .stall => if position then .failed else .done
  | .hallFault => .failed
  | .stopRequest | .locked | .limit | .endStop | .pinch | .preempted | .armed | .config | .noPower
  | .supplyLow | .thermal => .stopped

/-- The outcome of a restore leg (R175). -/
def restoreOutcome : StopCause → CrashOutcome
  | .reached => .done
  | .limit | .pinch | .stall | .hallFault | .thermal | .supplyLow | .noPower => .failed
  | .preempted | .locked | .stopRequest | .endStop | .armed | .config | .crashTime => .stopped

/-- A REQUESTED leg of an axis ends. -/
def endLeg (i : Fin 8) (finished : Bool) (out : CrashLeg → CrashOutcome) (l : CrashLeg) : CrashLeg :=
  if l.axis == i && l.phase == .requested then
    { l with phase := if finished then .finished else .ended, outcome := some (out l) }
  else l

/-- An ENDED leg of an axis is FINISHED by the parked report. -/
def parkLeg (i : Fin 8) (l : CrashLeg) : CrashLeg :=
  if l.axis == i && l.phase == .ended then { l with phase := .finished } else l

/-- The accumulator of a time leg: the energised time of the report, or the time from the PULL for an axis
that drove on (R172). In ms, the part below 1 ms dropped (log entry 31). -/
def State.legTime (s : State) (l : CrashLeg) (ms : Nat) : Nat :=
  if l.droveOn then (s.now - s.crash.pullTime) / 1000 else ms

/-- The accumulator of the snapshot entry of an axis's requested time leg is set (R172). -/
def Ev.accumulate (e : Ev) (i : Fin 8) (ms : Nat) : Ev :=
  match e.crash.legs.find? (fun l => l.axis == i && l.phase == .requested), e.crash.snapAxes[i] with
  | some l, some (.time _ d) =>
    e.setCrash { e.crash with snapAxes := e.crash.snapAxes.set i (some (.time (e.legTime l ms) d)) }
  | _, _ => e

/-- An axis's end report for a crash leg (R172). -/
def Ev.crashLegEnd (e : Ev) (i : Fin 8) (cause : StopCause) (ms : Nat) (atOnce : Bool) : Ev :=
  if e.crash.kind != .pull then e
  else
    let e := e.accumulate i ms
    (e.setCrash { e.crash with
      legs := e.crash.legs.map (endLeg i atOnce (fun l => crashOutcome l.position cause)) }).tell .crashStep

/-- An axis's end report for a restore leg (R175). The phases of R172 apply: a leg that ended at once without driving,
REACHED at its position, is FINISHED by it, and so is one that was only a pending request. -/
def Ev.restoreLegEnd (e : Ev) (i : Fin 8) (cause : StopCause) (onlyPending atOnce : Bool) : Ev :=
  if e.crash.kind != .restore then e
  else
    (e.setCrash { e.crash with
      legs := e.crash.legs.map (endLeg i (onlyPending || atOnce) (fun _ => restoreOutcome cause)) }).tell .crashStep

/-- An axis's parked report for a leg of the present set. -/
def Ev.crashLegParked (e : Ev) (i : Fin 8) (m : Mover) : Ev :=
  let mine := (m == .crash && e.crash.kind == .pull) || (m == .restore && e.crash.kind == .restore)
  if mine then (e.setCrash { e.crash with legs := e.crash.legs.map (parkLeg i) }).tell .crashStep else e

/-- The number of legs with an outcome. -/
def State.legCount (s : State) (o : CrashOutcome) : Nat :=
  (s.crash.legs.filter (fun l => l.outcome == some o)).length

/-! ## ARMED (R169) -/

/-- ARMED is entered (R169). The reservation is set first, so that no grant pass of the event grants above the lowered
grantable cap (R78, R86). The axes' stops, the shed to fit and the abort of a recall may then be taken in any order
(R86, R105; log entry 4); an axis shed first ends with SUPPLY_LOW (R83). The axes themselves stop and release one after
the other, the lowest number first, each release with its grant pass (R75; log entry 33). -/
def Ev.enterArmed (e : Ev) : Ev :=
  let e := e.setCrash { e.crash with state := .armed, armAt := some (e.now + ms (100 * e.conf.armHold)) }
  let e := e.budgetArm
  let axes := fun (e : Ev) => allAxes.foldl Ev.armAxis e
  let shed := fun (e : Ev) => e.shedToFit.axesShed
  if e.axes.toList.any (fun a => a.grant != .none) then e.anyOrder axes shed Ev.recallArmed
  else (shed (axes e)).recallArmed

/-- ARMED is left for IDLE (R169). -/
def Ev.leaveArmed (e : Ev) : Ev := (e.setCrash { e.crash with state := .idle, armAt := none }).budgetDisarm

/-- ARM is handed (R168, R169). -/
def Ev.takeArm (e : Ev) : Ev :=
  match e.crash.state with
  | .idle => e.enterArmed
  | .armed => e.setCrash { e.crash with armAt := some (e.now + ms (100 * e.conf.armHold)) }
  | .notReady | .pulling | .holding | .restoring | .locked => e

/-- The arm hold timer expires (R169). -/
def Ev.armExpiry (e : Ev) : Ev :=
  match e.crash.armAt with
  | some t => if e.crash.state == .armed then (e.due t).leaveArmed else e
  | none => e

/-! ## PULL (R170, R171, R176) -/

/-- The crash request of a crash-role axis at PULL. Its leg keeps whether the axis takes it RUNNING in the crash
direction (R70, R172). -/
def Ev.pullAxis (e : Ev) (i : Fin 8) : Ev :=
  let g := e.crashGoal i
  let on := e.drivesOn i g
  let e := e.setCrash { e.crash with
    legs := e.crash.legs.map (fun l => if l.axis == i then { l with droveOn := on } else l) }
  e.crashRequest i g

/-- The budget and the axes at PULL: revocations, crash requests, stops. -/
def Ev.pullAxes (e : Ev) : Ev :=
  let e := e.budgetPull
  allAxes.foldl (fun e i =>
    if !(e.axisConf i).fitted then e
    else if e.crashAxis i then e.pullAxis i
    else e.crashStop i) e

/-- The pull timer's time limit in microseconds. -/
def State.pullLimit (s : State) : Nat := ms (10 * s.conf.pullLimit)

/-- PULL is taken (R170, R171). -/
def Ev.enterPulling (e : Ev) (severity : Byte) : Ev :=
  let was := e.crash.state
  let e := e.takeSnapshot
  let e := e.setCrash { e.crash with state := .pulling, armAt := none, holdAt := none,
                                     pullAt := some (e.now + e.pullLimit), pullTime := e.now }
  let e := { e with ins := e.ins.withdraw (fun c => c.purpose == Purpose.patternFetch) }
  let e := e.guardBegin.spoilCrash
  let abort := fun (e : Ev) => e.abortRecall .pull
  let e := if e.contended then e.anyOrder abort Ev.panelSync Ev.pullAxes
           else (abort e).panelSync.pullAxes
  let e := e.airPull
  (e.hand .pull (toWord (crashCode was)) (toWord severity.toNat)).tell .crashStep

/-- PULL is handed (R168). -/
def Ev.takePull (e : Ev) (severity : Byte) : Ev :=
  match e.crash.state with
  | .idle | .armed | .restoring => e.enterPulling severity
  | .notReady | .pulling | .holding | .locked => e

/-- HOLDING is entered (R173). -/
def Ev.enterHolding (e : Ev) : Ev :=
  let e := e.setCrash { e.crash with state := .holding, pullAt := none,
                                     holdAt := some (e.now + ms (1000 * e.conf.crashHold)) }
  (e.budgetDemote true).airHolding

/-- The pull timer expires (R172, R173). -/
def Ev.pullExpiry (e : Ev) : Ev :=
  match e.crash.pullAt with
  | none => e
  | some t =>
    if e.crash.state != .pulling then e
    else
      let e := e.due t
      (e.crash.legs.foldl (fun e l => if l.phase == .requested then e.crashTimeUp l.axis else e) e).enterHolding

/-! ## RESTORING (R174, R175) -/

/-- The stop requests of a RELEASE in PULLING: each requested leg ends, its accumulator set (R174), in whole ms (log entry
31). -/
def Ev.stopLegs (e : Ev) : Ev :=
  e.crash.legs.foldl (fun e l =>
    if l.phase == .requested then
      let e := e.accumulate l.axis (e.axes[l.axis].energisedFor e.now / 1000)
      e.stopRequest l.axis .crash
    else e) e

/-- The restore leg of a snapshot entry, and its request (R175). -/
def Ev.requestRestore (e : Ev) (i : Fin 8) : Ev :=
  let add := fun (e : Ev) (l : CrashLeg) => e.setCrash { e.crash with legs := e.crash.legs ++ [l] }
  match e.crash.snapAxes[i] with
  | none => e
  | some (.position p) =>
    (add e ⟨i, true, .requested, none, false⟩).startRequest i ⟨.restore, .restoreTo p⟩
  | some (.time t d) =>
    if t == 0 then add e ⟨i, false, .finished, some .done, false⟩
    else (add e ⟨i, false, .requested, none, false⟩).startRequest i ⟨.restore, .restoreTime t d.opp⟩

/-- RESTORING is entered (R174, R175). R89 leaves open whether the RESTORE claims are taken before or after the entries
returned from SHED: here those are returned, shed to fit and granted first (log entry 33). -/
def Ev.enterRestoring (e : Ev) : Ev :=
  let pulling := e.crash.state == .pulling
  let e := e.setCrash { e.crash with state := .restoring, pullAt := none, holdAt := none, kind := .restore,
                                     legs := [] }
  let e := (if pulling then e.budgetDemote false else e).budgetUnhold
  let e := e.airUnhold.panelSync
  (allAxes.foldl Ev.requestRestore e).tell .crashStep

/-- RELEASE is handed (R168, R169, R174). -/
def Ev.takeRelease (e : Ev) : Ev :=
  match e.crash.state with
  | .armed => e.leaveArmed
  | .pulling => e.stopLegs.enterRestoring
  | .holding => e.enterRestoring
  | .notReady | .idle | .restoring | .locked => e

/-- The crash hold timer expires (R174). -/
def Ev.holdExpiry (e : Ev) : Ev :=
  match e.crash.holdAt with
  | none => e
  | some t =>
    if e.crash.state != .holding then e
    else ((e.due t).hand .holdExpired absent (toWord e.conf.crashHold)).enterRestoring

/-- Every restore leg is finished: IDLE (R175). -/
def Ev.restored (e : Ev) : Ev :=
  let e := e.hand .restored (bytes (e.legCount .done) (e.legCount .failed)) (toWord e.crash.drops)
  e.setCrash { e.crash with state := .idle, drops := 0 }

/-- PULLING or RESTORING may have come to its end (R173, R175). -/
def Ev.crashStep (e : Ev) : Ev :=
  match e.crash.state with
  | .pulling =>
    if e.crash.legs.any (fun l => l.phase == .requested) ||
        e.air.chambers.toList.any (fun x => x.owner == .crash && x.moving) then e
    else e.enterHolding
  | .restoring => if e.crash.legs.any (fun l => l.phase != .finished) then e else e.restored
  | .notReady | .idle | .armed | .holding | .locked => e

/-! ## LOCKED (R177 to R179) -/

/-- Offer an urgent write of CRASH_RECORD (R177, R178). -/
def Ev.offerRecord (e : Ev) (v : Word) : Ev :=
  e.offerWrite .crashRecord (regionAddr e.conf .seat crashRecordOffset) v true

/-- The announcements of entering LOCKED, with the entry (R177, R178). A write dropped as the guard begins (R21) is counted
before the entry takes the drop count: the rules give no order (log entry 33). -/
def Ev.enterLocked (e : Ev) : Ev :=
  let was := e.crash.state
  let e := e.setCrash { e.crash with state := .locked, armAt := none, pullAt := none, holdAt := none }
  let e := e.guardBegin.spoilCrash
  let axes := fun (e : Ev) => allAxes.foldl Ev.lockAxis e
  let abort := fun (e : Ev) => e.abortRecall .locked
  let e := e.budgetLock
  let e := if e.contended then e.anyOrder abort Ev.panelSync axes else axes (abort e).panelSync
  let e := e.airLock
  let e := e.hand .locked (toWord (crashCode was)) (toWord e.crash.drops)
  e.setCrash { e.crash with drops := 0 }

/-- IMPACT is handed (R168, R177). -/
def Ev.takeImpact (e : Ev) : Ev :=
  match e.crash.state with
  | .notReady | .locked => e
  | .idle | .armed | .pulling | .holding | .restoring => e.enterLocked.offerRecord recordLocked

/-- The crash controller leaves NOT_READY when ACTIVE is entered (R35, R178). -/
def Ev.crashOpen (e : Ev) : Ev :=
  if e.cfg.crashRecord == recordLocked then e.enterLocked
  else e.setCrash { e.crash with state := .idle }

/-- LOCKED is left (R178). -/
def Ev.leaveLocked (e : Ev) : Ev :=
  let e := (e.setCrash { e.crash with state := .idle }).offerRecord recordNone
  let e := e.budgetUnhold.airUnhold.panelSync
  let e := e.hand .cleared absent (toWord e.crash.drops)
  e.setCrash { e.crash with drops := 0 }

/-- The answer of CRASH_CLEAR (R179). -/
def State.clearAnswer (s : State) (v : Word) : Answer :=
  if 1 < v.toNat then .refused
  else if v == 0 || s.crash.state == .locked then .taken
  else .refused

/-- A taken write of CRASH_CLEAR (R178, R179). -/
def Ev.clearTake (e : Ev) (v : Word) : Ev :=
  if v == 0 then e
  else
    e.leaveLocked.offerWrite .crashClearNeutral (slotAddr e.conf .crashClear) (e.neutralValue .crashClear) false

end Sys2Proof.Machine
end

