-- ==== Sys2Proof/Machine/Link.lean ====
section
/-! DEFINITION. The safety link receiver (09_crash_pull_forward_and_the_safety_link.md section 9.1): frames, the
ready mark, receive errors and the reply. Times are in microseconds on the clock. -/

namespace Sys2Proof.Machine

/-- The receiver replaced within an event. -/
def Ev.setLink (e : Ev) (l : Link) : Ev := { e with link := l }

/-- Command codes (section 11.5). -/
def codeArm : Byte := 0x31
def codePull : Byte := 0x32
def codeRelease : Byte := 0x33
def codeImpact : Byte := 0x34
def codeQuery : Byte := 0x35
def codeStatus : Byte := 0x45

/-- Line idle times of R162 and R165. -/
def readyTime : Nat := ms 2
def idleTime : Nat := ms 10

/-- The working values of the frame in progress are empty (R162). -/
def Link.clear (l : Link) : Link :=
  { l with bitTime := 0, edges := [], command := none, data := none, received := 0, expected := 0, fieldAt := none,
           levels := [] }

/-- The level of the line after an edge. -/
def Link.level (l : Link) (now : Nat) (rising : Bool) : Link := { l with lineHigh := rising, lineSince := now }

/-- The level of the line at a sample. -/
def Link.sampled (l : Link) (now : Nat) (high : Bool) : Link :=
  if l.lineHigh == high then l else l.level now high

/-- The line has been high for 2 ms (R162). -/
def Link.idleHigh (l : Link) (now : Nat) : Bool := l.lineHigh && decide (l.lineSince + readyTime ≤ now)

/-- A falling edge starts a SYNC field (R162). -/
def Link.beginSync (l : Link) (now : Nat) : Link :=
  { (l.clear.level now false) with state := .sync, edges := [now], turnAt := none }

/-! ## Receive errors (R165) -/

/-- A receive error: the frame is discarded, and the first of its kind since the last valid frame is journalled. -/
def Ev.linkError (e : Ev) (kind : LinkError) (detail : Word) : Ev :=
  let l := e.link
  let told := l.reported.contains kind
  let e := e.setLink { l.clear with state := .waitSync, ready := l.idleHigh e.now,
                                    reported := if told then l.reported else l.reported ++ [kind] }
  if told then e else e.hand (.link kind) (toWord l.received) detail

/-- The time of the stop sample of the field in progress: half a bit time after edge 9, or 9.5 bit times after the start
edge (R163, R164). Half an odd bit time is rounded down to a whole microsecond (log entry 9). -/
def Link.stopSample (l : Link) : Option Nat :=
  match l.state with
  | .sync => l.edges[9]?.map (· + l.bitTime / 2)
  | .fields => l.fieldAt.map (· + (19 * l.bitTime) / 2)
  | .waitSync | .turnaround | .reply => none

/-- The level of the line at a time, from the changes of level kept for the field. A sample at the very microsecond of an edge
sees the level after it: DESIGN CHOICE, since R164 does not say (log entry 41). -/
def Link.levelAt (l : Link) (t : Nat) : Bool :=
  l.levels.foldl (fun h (x : Nat × Bool) => if x.1 ≤ t then x.2 else h) true

/-- The stop sample of the field in progress is high. -/
def Link.stopHigh (l : Link) : Bool := l.stopSample.any l.levelAt

/-- The byte that the line gives at 1.5 to 8.5 bit times after the start edge of the field in progress, least
significant bit first (R164). -/
def Link.fieldByte (l : Link) : Option Byte :=
  l.fieldAt.map (fun t => BitVec.ofNat 8 ((List.range 8).foldl
    (fun n k => n + 2 ^ k * bit (l.levelAt (t + (2 * k + 3) * l.bitTime / 2))) 0))

/-- The clock reaches the stop sample of the field in progress. -/
def Ev.toStopSample (e : Ev) : Ev :=
  match e.link.stopSample with
  | some t => e.due t
  | none => e

/-- The stop sample of a field of FIELDS is high: the field is received. -/
def Link.receive (l : Link) (now : Nat) : Link :=
  { (l.sampled now true) with received := l.received + 1, fieldAt := none, levels := [] }

/-- A command code of the safety controller. -/
def isCommand (b : Byte) : Bool :=
  b == codeArm || b == codePull || b == codeRelease || b == codeImpact || b == codeQuery

/-- The bytes of the CRC of a frame. -/
def frameCrc (code : Byte) (data : Option Byte) : Byte :=
  BitVec.ofNat 8 (crc8 (code.toNat :: (data.map (·.toNat)).toList))

/-- The byte of the field in progress is an error of a kind in its place (R164). -/
def Link.byteError (l : Link) (b : Byte) : LinkError → Bool
  | .unknownCommand => l.command.isNone && !isCommand b
  | .check => l.expected == 0 && l.command.any (fun c => b != frameCrc c l.data)
  | .rate | .syncSpread | .stopBit | .idleTimeout => false

/-- An error of a kind and a detail can end the field in progress at its stop sample (R163, R164). The detail of a
STOP_BIT of the SYNC field, which is not examined as a byte, is the row's (log entry 9). -/
def Link.canFail (l : Link) (kind : LinkError) (detail : Word) : Bool :=
  match l.state, kind with
  | .sync, .stopBit => l.edges.length == 10 && !l.stopHigh
  | .fields, .stopBit => !l.stopHigh && l.fieldByte.any (fun b => toWord b.toNat == detail)
  | .fields, k => l.stopHigh && l.fieldByte.any (fun b => toWord b.toNat == detail && l.byteError b k)
  | _, _ => false

/-- A receive error reported by its row: in SYNC and FIELDS, where its kind can occur (log entry 9). -/
def Ev.receiveError (e : Ev) (kind : LinkError) (detail : Word) : Ev :=
  match e.link.state, kind with
  | .sync, .rate | .sync, .syncSpread => e.linkError kind detail
  | _, _ =>
    if e.link.canFail kind detail then
      let e := e.toStopSample
      let l := if kind == .stopBit then e.link.sampled e.now false else e.link.receive e.now
      (e.setLink l).linkError kind detail
    else e

/-- The line has stood still for more than 10 ms inside a frame (R165). -/
def Ev.lineStill (e : Ev) : Ev :=
  if e.link.state == .sync || e.link.state == .fields then
    (e.due (e.link.lineSince + idleTime + 1)).linkError .idleTimeout (toWord (bit e.link.lineHigh))
  else e

/-! ## Edges (R162 to R164, R166) -/

/-- The widths of the two last data bits of the SYNC field, the earlier first. -/
def lastWidths (edges : List Nat) : Nat × Nat :=
  let k := edges.length - 1
  (edges.getD (k - 1) 0 - edges.getD (k - 2) 0, edges.getD k 0 - edges.getD (k - 1) 0)

/-- Two neighbouring widths differ by more than one fifth of the earlier (R163). -/
def spreadBad (earlier later : Nat) : Bool :=
  decide (earlier < 5 * (later - earlier)) || decide (earlier < 5 * (earlier - later))

/-- An edge of the SYNC field (R163). Where edge 9 fails both checks, SYNC_SPREAD is taken before RATE: the rule gives no
order (log entry 33). -/
def Ev.syncEdge (e : Ev) : Ev :=
  let l := e.link
  if 10 ≤ l.edges.length then e.setLink { l with levels := l.levels ++ [(e.now, l.lineHigh)] }
  else
    let edges := l.edges ++ [e.now]
    let k := l.edges.length
    let e := e.setLink { l with edges := edges }
    if 3 ≤ k && spreadBad (lastWidths edges).1 (lastWidths edges).2 then e.linkError .syncSpread (toWord k)
    else if k == 9 then
      let t := (edges.getD 9 0 - edges.getD 1 0) / 8
      if t < 20 || 200 < t then e.linkError .rate (toWord (min t 65534))
      else e.setLink { e.link with bitTime := t, levels := [(e.now, l.lineHigh)] }
    else e

/-- A falling edge in TURNAROUND cancels the reply (R166). -/
def Ev.cancelReply (e : Ev) : Ev :=
  if e.link.state == .turnaround then e.setLink (e.link.beginSync e.now) else e

/-- An edge in FIELDS: the first falling one starts a field, and what follows are changes of level inside it (R164). -/
def Link.fieldEdge (l : Link) (now : Nat) (rising : Bool) : Link :=
  if l.fieldAt.isSome then { l with levels := l.levels ++ [(now, rising)] }
  else if rising then l
  else { l with fieldAt := some now, levels := [(now, false)] }

/-- An edge of SLINK (R162 to R166). The part's own edges in REPLY are none of these. -/
def Ev.lineEdge (e : Ev) (dt : Nat) (rising : Bool) : Ev :=
  match e.link.state with
  | .reply => e
  | .turnaround =>
    let e := e.pass dt
    if rising then e.setLink (e.link.level e.now true) else e.cancelReply
  | .waitSync =>
    let e := e.pass dt
    if !rising && e.link.ready then e.setLink (e.link.beginSync e.now)
    else e.setLink (e.link.level e.now rising)
  | .sync =>
    let e := e.pass dt
    (e.setLink (e.link.level e.now rising)).syncEdge
  | .fields =>
    let e := e.pass dt
    e.setLink ((e.link.level e.now rising).fieldEdge e.now rising)

/-- The falling edge that starts a SYNC field (R162). -/
def Ev.syncStart (e : Ev) (dt : Nat) : Ev :=
  if e.link.state == .waitSync && e.link.ready then
    let e := e.pass dt
    e.setLink (e.link.beginSync e.now)
  else e

/-- The line has been high for 2 ms (R162). -/
def Ev.linkReady (e : Ev) : Ev :=
  if e.link.lineHigh && !e.link.ready && e.link.state == .waitSync then
    let e := e.due (e.link.lineSince + readyTime)
    e.setLink { e.link with ready := true }
  else e

/-! ## Frames (R164) -/

/-- A valid frame that is not QUERY leaves the receiver in WAIT_SYNC, ready. -/
def Link.afterFrame (l : Link) (now : Nat) : Link :=
  { (l.clear.sampled now true) with state := .waitSync, ready := true, reported := [], turnAt := none }

/-- A valid QUERY: TURNAROUND of 2 bit times from the stop sample of the CHECK field (R166). -/
def Link.afterQuery (l : Link) (now bitTime : Nat) : Link :=
  { (l.clear.sampled now true) with state := .turnaround, reported := [], bitTime := bitTime,
                                    turnAt := some (now + 2 * bitTime) }

/-- The valid frame of a command can end now: as a whole frame where a SYNC field could start, or with the CHECK field of
the frame in progress (log entry 9). -/
def Link.canEnd (l : Link) (code : Byte) (data : Option Byte) : Bool :=
  match l.state with
  | .waitSync => l.ready
  | .turnaround => true
  | .fields =>
    l.stopHigh && l.command == some code && l.expected == 0 && l.data == data &&
      l.fieldByte == some (frameCrc code data)
  | .sync | .reply => false

/-- A valid frame other than QUERY: the command is handed to the crash controller (R164). -/
def Ev.frame (e : Ev) (code : Byte) (data : Option Byte) (hand : Ev → Ev) : Ev :=
  if e.link.canEnd code data then
    let e := e.toStopSample
    hand (e.setLink (e.link.afterFrame e.now))
  else e

/-- A valid QUERY frame (R164, R166): at the bit time measured, or at the one given for a whole frame. -/
def Ev.queryFrame (e : Ev) (bitTime : Nat) : Ev :=
  if e.link.canEnd codeQuery none then
    let e := e.toStopSample
    let t := if e.link.state == .fields then e.link.bitTime else bitTime
    e.setLink (e.link.afterQuery e.now t)
  else e

/-- A valid frame by its command and data (R164, R168). -/
def Ev.validFrame (e : Ev) (code : Byte) (data : Option Byte) (bitTime : Nat) : Ev :=
  if code == codeArm then e.frame code none Ev.takeArm
  else if code == codePull then e.frame code data (fun e => e.takePull (data.getD 0))
  else if code == codeRelease then e.frame code none Ev.takeRelease
  else if code == codeImpact then e.frame code none Ev.takeImpact
  else e.queryFrame bitTime

/-- A field of FIELDS is received (R164). -/
def Ev.frameField (e : Ev) (b : Byte) : Ev :=
  match e.link.command with
  | none =>
    let e := e.setLink (e.link.receive e.now)
    if isCommand b then
      e.setLink { e.link with command := some b, expected := if b == codePull then 1 else 0 }
    else e.linkError .unknownCommand (toWord b.toNat)
  | some c =>
    if e.link.expected != 0 then
      let l := e.link.receive e.now
      e.setLink { l with data := some b, expected := l.expected - 1 }
    else if b == frameCrc c e.link.data then e.validFrame c e.link.data e.link.bitTime
    else (e.setLink (e.link.receive e.now)).linkError .check (toWord b.toNat)

/-- A stop sample is high (R163, R164). The byte of a field of FIELDS is the one the line gives at its samples; with
another the event does not occur (log entry 2). -/
def Ev.fieldReceived (e : Ev) (b : Byte) : Ev :=
  match e.link.state with
  | .sync =>
    if e.link.edges.length == 10 && e.link.stopHigh then
      let e := e.toStopSample
      e.setLink { (e.link.sampled e.now true) with state := .fields, received := 0, levels := [] }
    else e
  | .fields => if e.link.stopHigh && e.link.fieldByte == some b then e.toStopSample.frameField b else e
  | .waitSync | .turnaround | .reply => e

/-! ## The reply (R166) -/

/-- The step: legs of the current leg set not yet finished, in PULLING and RESTORING. -/
def State.crashStepCount (s : State) : Nat :=
  if s.crash.state == .pulling || s.crash.state == .restoring then
    (s.crash.legs.filter (fun l => l.phase != .finished)).length
  else 0

/-- The five fields of a reply (R166, section 11.5). -/
def State.replyFields (s : State) : List Byte :=
  let d1 : Byte := BitVec.ofNat 8 (s.crashStepCount * 16 + crashCode s.crash.state)
  let d2 : Byte := BitVec.ofNat 8 (s.legCount .done * 16 + s.legCount .failed)
  [0x55, codeStatus, d1, d2, BitVec.ofNat 8 (crc8 [codeStatus.toNat, d1.toNat, d2.toNat])]

/-- TURNAROUND ends: the reply is formed and sent (R166). -/
def Ev.turnaroundEnd (e : Ev) : Ev :=
  match e.link.state, e.link.turnAt with
  | .turnaround, some t =>
    let e := e.due t
    e.setLink { e.link with state := .reply, ready := false, turnAt := none, reply := some e.replyFields,
                            replyAt := some (e.now + 50 * e.link.bitTime) }
  | _, _ => e

/-- The receiver after a reply, its ready mark clear (R162, R166). -/
def Link.afterReply (l : Link) (high : Bool) (since : Nat) : Link :=
  { (l.clear.level since high) with state := .waitSync, ready := false, reply := none, replyAt := none }

/-- The bits of a field on the line: a low start bit, the data least significant bit first, a high stop bit (R161). -/
def fieldBits (b : Byte) : List Bool := [false] ++ (List.range 8).map b.getLsbD ++ [true]

/-- The bits of the reply, in the order in which they are sent (R166); the part pulls the line low for a 0. -/
def Link.replyBits (l : Link) : List Bool := (l.reply.getD []).flatMap fieldBits

/-- The reply began 50 bit times before its end. -/
def Link.replyStart (l : Link) : Nat := l.replyAt.getD 0 - 50 * l.bitTime

/-- The middles of the bits of the reply that the part releases, in order (R166). -/
def Link.releasedSamples (l : Link) : List Nat :=
  ((List.range 50).filter (fun k => l.replyBits.getD k false)).map (fun k => l.replyStart + k * l.bitTime + l.bitTime / 2)

/-- A low sample at the next released bit: the safety controller drives the line, and the reply is abandoned (R166).
Where no released bit is still to be sampled, nothing happens (log entry 2). -/
def Ev.abandonReply (e : Ev) : Ev :=
  match e.link.state, e.link.releasedSamples.find? (fun t => decide (e.now ≤ t)) with
  | .reply, some t =>
    let e := e.due t
    e.setLink (e.link.afterReply false e.now)
  | _, _ => e

/-- Bits of a field's end that are high: its leading ones, with the stop bit. -/
def highTail (b : Nat) : Nat :=
  if b < 128 then 1 else if b < 192 then 2 else if b < 224 then 3 else if b < 240 then 4
  else if b < 248 then 5 else if b < 252 then 6 else if b < 254 then 7 else if b < 255 then 8 else 9

/-- The 50th bit of the reply ends; the line has been high since the last rising edge in the CHECK field
(R162, R166). -/
def Ev.replyEnd (e : Ev) : Ev :=
  match e.link.state, e.link.replyAt with
  | .reply, some t =>
    let e := e.due t
    let tail := highTail (((e.link.reply.getD []).getD 4 0).toNat)
    e.setLink (e.link.afterReply true (t - tail * e.link.bitTime))
  | _, _ => e

end Sys2Proof.Machine
end

