-- ==== Sys2Proof/Machine/Slots.lean ====
section
/-! DEFINITION. The answer of its owner to a value offered to a CONTROL slot, what a taken value does, and when a
slot is busy (R6, R64, R65, R95, R107, R121, R133, R141, R157, R179, R184). -/

namespace Sys2Proof.Machine

/-! ## The slots of an axis (R64, R65) -/

/-- STOPPING, PARKING or REVERSING. -/
def AxisState.windingDown : AxisState → Bool
  | .stopping | .parking | .reversing => true
  | .idle | .starting | .running | .blocked => false

/-- TARGET and JOG of the axis are busy (R64). -/
def State.moveBusy (s : State) (i : Fin 8) : Bool :=
  s.axes[i].state.windingDown ||
    (match s.axisOwner i with
     | some o => o.above .image
     | none => false) ||
    (s.crash.state == .armed && s.crashAxis i)

/-- The answer of TARGET (R64). -/
def State.targetAnswer (s : State) (i : Fin 8) (v : Word) : Answer :=
  if v != absent && decide ((s.axisConf i).stroke < v.toNat) then .refused
  else if s.moveBusy i then .busy
  else if v == absent then .taken
  else if s.axes[i].state == .blocked || !s.axes[i].referenced then .refused
  else .taken

/-- The answer of JOG (R64). -/
def State.jogAnswer (s : State) (i : Fin 8) (v : Word) : Answer :=
  if 3 < v.toNat then .refused
  else if s.moveBusy i then .busy
  else if v == 0 then .taken
  else if s.axes[i].state == .blocked then .refused
  else .taken

/-- The goal in force or the pending request is an IMAGE goal set through JOG (true) or TARGET
(false). -/
def State.imageGoal (s : State) (i : Fin 8) (jog : Bool) : Bool :=
  let a := s.axes[i]
  (a.mover == some .image && (match a.goal with
    | some g => g.slot == some jog
    | none => false)) ||
  (match a.pending with
    | some r => r.mover == .image && r.goal.slot == some jog
    | none => false)

/-- A taken write of TARGET (R64). -/
def Ev.targetTake (e : Ev) (i : Fin 8) (v : Word) : Ev :=
  if v == absent then (if e.imageGoal i false then e.stopRequest i .image else e)
  else e.startRequest i ⟨.image, .target v.toNat⟩

/-- The goal of a JOG value of 1 to 3 (R64). -/
def jogGoal (v : Word) : Goal :=
  if v.toNat == 1 then .jog .upForward else if v.toNat == 2 then .jog .downBack else .home

/-- A taken write of JOG (R64). -/
def Ev.jogTake (e : Ev) (i : Fin 8) (v : Word) : Ev :=
  if v == 0 then (if e.imageGoal i true then e.stopRequest i .image else e)
  else e.startRequest i ⟨.image, jogGoal v⟩

/-- The answer of DUTY, LIMIT_LO or LIMIT_HI, the value being in range or not (R65). -/
def State.settingAnswer (s : State) (i : Fin 8) (v : Word) (inRange : Bool) : Answer :=
  if v != absent && !inRange then .refused
  else if s.axes[i].state != .idle then .busy
  else .taken

def State.dutyAnswer (s : State) (i : Fin 8) (v : Word) : Answer :=
  s.settingAnswer i v (decide (20 ≤ v.toNat) && decide (v.toNat ≤ 100))

def State.limitLoAnswer (s : State) (i : Fin 8) (v : Word) : Answer :=
  s.settingAnswer i v (decide (v.toNat ≤ (s.axisConf i).stroke) && decide (v.toNat < s.axes[i].limitHi))

def State.limitHiAnswer (s : State) (i : Fin 8) (v : Word) : Answer :=
  s.settingAnswer i v (decide (v.toNat ≤ (s.axisConf i).stroke) && decide (s.axes[i].limitLo < v.toNat))

/-- Taken writes of DUTY, LIMIT_LO and LIMIT_HI (R65). -/
def Ev.dutyTake (e : Ev) (i : Fin 8) (v : Word) : Ev :=
  if v == absent then e else e.setAxis i { e.axes[i] with duty := v.toNat }

def Ev.limitLoTake (e : Ev) (i : Fin 8) (v : Word) : Ev :=
  if v == absent then e else e.setAxis i { e.axes[i] with limitLo := v.toNat }

def Ev.limitHiTake (e : Ev) (i : Fin 8) (v : Word) : Ev :=
  if v == absent then e else e.setAxis i { e.axes[i] with limitHi := v.toNat }

/-! ## LEVEL (R157) -/

/-- A taken write of LEVEL; `late` says that a catch-up or sweep read offers the value. -/
def Ev.levelTake (e : Ev) (z : Fin 6) (v : Word) (late : Bool) : Ev :=
  if late && e.zones[z].level == v.toNat then e else e.requestLevel z v.toNat true

/-! ## Every slot -/

/-- The owner's answer to an offered value (R6). -/
def State.answer (s : State) (c : CSlot) (v : Word) : Answer :=
  match c with
  | .recall => s.recallAnswer v
  | .store => s.storeAnswer v
  | .massage => s.massageAnswer v
  | .panelEnable => panelAnswer v
  | .crashClear => s.clearAnswer v
  | .axTarget i => s.targetAnswer i v
  | .axJog i => s.jogAnswer i v
  | .axDuty i => s.dutyAnswer i v
  | .axLimitLo i => s.limitLoAnswer i v
  | .axLimitHi i => s.limitHiAnswer i v
  | .airTarget n => s.airAnswer n v
  | .level _ => if 3 < v.toNat then .refused else .taken
  | .readIndex => s.journal.readAnswer v

/-- The owner acts on a taken value. -/
def Ev.take (e : Ev) (c : CSlot) (v : Word) (late : Bool) : Ev :=
  match c with
  | .recall => e.recallTake v
  | .store => e.storeTake v
  | .massage => e.massageTake v
  | .panelEnable => e.panelTake v
  | .crashClear => e.clearTake v
  | .axTarget i => e.targetTake i v
  | .axJog i => e.jogTake i v
  | .axDuty i => e.dutyTake i v
  | .axLimitLo i => e.limitLoTake i v
  | .axLimitHi i => e.limitHiTake i v
  | .airTarget n => e.airTake n v
  | .level z => e.levelTake z v late
  | .readIndex => e.readTake v

/-- The owner's own part in a refusal: STORE_BUSY of the recall and store engine (R95). -/
def Ev.ownRefusal (e : Ev) (c : CSlot) (v : Word) : Ev :=
  match c with
  | .store => e.storeRefuse v
  | .recall | .massage | .panelEnable | .crashClear | .axTarget _ | .axJog _ | .axDuty _ | .axLimitLo _
  | .axLimitHi _ | .airTarget _ | .level _ | .readIndex => e

/-- The slot is busy, for the slots whose busyness does not hang on the value. -/
def State.slotBusy (s : State) (c : CSlot) : Bool :=
  match c with
  | .axTarget i | .axJog i => s.moveBusy i
  | .axDuty i | .axLimitLo i | .axLimitHi i => s.axes[i].state != .idle
  | .massage => s.air.massage.state == .fetching || s.air.massage.state == .ending
  | .airTarget n => s.air.chambers[n].owner == .crash
  | .recall | .store | .panelEnable | .crashClear | .level _ | .readIndex => false

/-- The check of some profile entry has ended between two states. -/
def State.checkEnded (old new : State) : Bool :=
  allProfiles.any (fun n => old.engine.profiles[n].mark != .none && new.engine.profiles[n].mark == .none)

/-- The event that led from `old` to `new` is one in which the slot's owner reports that it has ceased to be
busy (R12, R67, R107, R133, R141; log entry 24). -/
def State.slotFreed (old new : State) (c : CSlot) : Bool :=
  match c with
  | .recall => new.engine.store.isNone && (old.engine.store.isSome || old.checkEnded new)
  | .store =>
    new.engine.store.isNone && !new.recallActive &&
      (old.engine.store.isSome || old.recallActive || old.checkEnded new)
  | .massage | .panelEnable | .crashClear | .axTarget _ | .axJog _ | .axDuty _ | .axLimitLo _ | .axLimitHi _
  | .airTarget _ | .level _ | .readIndex => old.slotBusy c && !new.slotBusy c

end Sys2Proof.Machine
end

