-- ==== Sys2Proof/Machine/Flags.lean ====
section
/-! DEFINITION. What the outside sees of the state: the words of the STATUS slots (R44, R68, R91, R108, R119, R146,
R158 with section 11.3), URDY, the load outputs, SLINK and the panel drive lines. -/

namespace Sys2Proof.Machine

/-- Codes of the configuration state (section 11.3). -/
def confStateCode : ConfState → Nat
  | .loading => 0
  | .active => 1
  | .validating => 2
  | .fallback => 3

/-- Codes of the reasons (section 11.3). -/
def reasonCode : Reason → Nat
  | .none => 0
  | .badCheck => 1
  | .badFormat => 2
  | .badWindow => 3
  | .badAxis => 4
  | .badCap => 5
  | .badCrashLoad => 6
  | .badKeymap => 7
  | .badPairing => 8
  | .changedDuringCheck => 9
  | .crashDuringCheck => 10

/-- The subject of the last rejection, 0xFF for absent. -/
def ConfigUnit.subjectByte (u : ConfigUnit) : Nat := u.lastSubject.getD 0xFF

/-- The CONFIG_STATE slot (R44). -/
def ConfigUnit.stateWord (u : ConfigUnit) : Word :=
  toWord (confStateCode u.state + 4 * bit (u.origin == some .fallback) + 16 * reasonCode u.lastReason +
    256 * u.subjectByte)

/-- Codes of the axis states (section 11.3). -/
def axisStateCode : AxisState → Nat
  | .idle => 0
  | .starting => 1
  | .running => 2
  | .stopping => 3
  | .parking => 4
  | .reversing => 5
  | .blocked => 6

/-- Codes of the goal kinds (section 11.3). -/
def goalCode : Option Goal → Nat
  | none => 0
  | some (.target _) => 1
  | some (.jog _) => 2
  | some .home => 3
  | some (.crashTo _) | some (.crashTime _) => 4
  | some (.backOff _) => 5
  | some (.restoreTo _) | some (.restoreTime _ _) => 6

/-- The STATE slot of an axis (R68). -/
def Axis.stateWord (a : Axis) : Word :=
  toWord (axisStateCode a.state + 16 * moverCode a.mover + 256 * goalCode a.goal + 4096 * bit a.referenced +
    8192 * bit a.pending.isSome)

/-- The POSITION slot of an axis (R68). -/
def Axis.positionWord (a : Axis) : Word := if a.referenced then toWord a.count else absent

/-- The budget's slots (R91). -/
def Budget.grantedWord (b : Budget) : Word := bytes b.motorTotal b.grantedTotal
def Budget.capWord (b : Budget) : Word := bytes b.grantable b.effective
def Budget.waitingWord (b : Budget) : Word := bytes (b.countIn .shed) (b.countIn .waiting)

/-- The owner's answer to a read of a STATUS slot (R5). -/
def State.statusWord (s : State) : StatusSlot → Word
  | .configState => s.cfg.stateWord
  | .recallState => s.recallStateWord
  | .recallLegs => s.recallLegsWord
  | .panelState => s.panelStateWord
  | .panelKeys => s.panelKeysWord
  | .budgetGranted => s.budget.grantedWord
  | .budgetCap => s.budget.capWord
  | .budgetWaiting => s.budget.waitingWord
  | .position i => s.axes[i].positionWord
  | .axisState i => s.axes[i].stateWord
  | .axisCause i => toWord (causeCode s.axes[i].lastCause)
  | .axisThermal i => toWord (min s.axes[i].thermal 65534)
  | .pressure c => s.air.chambers[c].pressureWord
  | .chamberState c => s.air.chambers[c].stateWord
  | .temperature z => s.temperatureWord z
  | .zoneState z => s.zones[z].stateWord
  | .zoneFault z => s.zones[z].faultWord

/-- URDY is high: no reset, LOADING over, and no upstream access kept, held or on its way through the D-port
(R11, R15, section 1.3 with the table of the state after reset). -/
def State.urdy (s : State) : Bool := !s.inReset && s.cfg.state != .loading && s.uport == .idle

/-- The part drives SLINK low: it sends a 0 of its reply. Otherwise the line is released (R161, R166). -/
def State.slinkLow (s : State) : Bool :=
  s.link.state == .reply && !s.link.replyBits.getD ((s.now - s.link.replyStart) / s.link.bitTime) true

/-- The panel drive line that is active; none while a reset is asserted (R110). -/
def State.driveLine (s : State) : Option (Fin 5) := if s.inReset then none else some s.panel.line

/-- The outputs of the part to a motor axis: the direction driven and the PWM duty, or off (R50). -/
def State.motorOut (s : State) (i : Fin 8) : Option (Dir × Nat) := s.axes[i].drive.map (fun d => (d, s.axes[i].driveDuty))

/-- The fill and the vent valve of a chamber are open (R125). -/
def State.valves (s : State) (c : Fin 12) : Bool × Bool := (s.air.chambers[c].fillOpen, s.air.chambers[c].ventOpen)

end Sys2Proof.Machine
end

