-- ==== Sys2Proof/Machine/Path.lean ====
section
/-! DEFINITION. The path decoder (01_the_memory_path.md): host accesses, offers, holding, the catch-up list, the
resync sweep. -/

namespace Sys2Proof.Machine

/-- The path decoder's state replaced within an event. -/
def Ev.setPath (e : Ev) (p : Path) : Ev := { e with path := p }

/-- An upstream access completes without the D-port. -/
def Ev.finishAccess (e : Ev) : Ev := { e with uport := .idle }

/-- An upstream read completes with a word. -/
def Ev.answerRead (e : Ev) (w : Word) : Ev := { e with uport := .idle, lastRead := some w }

/-- An upstream access is forwarded to the arbiter (R5 to R8). -/
def Ev.forward (e : Ev) (a : Access) : Ev := { e with uport := .waiting a }

/-! ## The resync sweep (R20) -/

/-- Every CONTROL slot. -/
def allSlots : List CSlot :=
  [.recall, .store, .massage, .panelEnable, .crashClear] ++
    allAxes.flatMap (fun i => [.axTarget i, .axJog i, .axDuty i, .axLimitLo i, .axLimitHi i]) ++
    allChambers.map .airTarget ++ allZones.map .level ++ [.readIndex]

/-- The unit of a CONTROL slot is fitted. -/
def State.slotFitted (s : State) (c : CSlot) : Bool :=
  match c with
  | .axTarget i | .axJog i | .axDuty i | .axLimitLo i | .axLimitHi i => (s.axisConf i).fitted
  | .airTarget n => (s.chamberConf n).fitted
  | .level z => (s.zoneConf z).fitted
  | .recall | .store | .massage | .panelEnable | .crashClear | .readIndex => true

/-- The lower of two slots by address. -/
def lowerSlot (k : Conf) (best : Option CSlot) (c : CSlot) : Option CSlot :=
  match best with
  | none => some c
  | some b => if (slotAddr k c).toNat < (slotAddr k b).toNat then some c else some b

/-- The CONTROL slot of a fitted unit at the lowest address from `from` on. -/
def State.nextSlot (s : State) (start : Nat) : Option CSlot :=
  (allSlots.filter (fun c => s.slotFitted c && decide (start ≤ (slotAddr s.conf c).toNat))).foldl
    (lowerSlot s.conf) none

/-- The sweep visits the next slot from an address on, or ends (R20). -/
def Ev.sweepFrom (e : Ev) (start : Nat) : Ev :=
  match e.nextSlot start with
  | some c => (e.setPath { e.path with sweep := some (slotAddr e.conf c) }).offerRead .sweep (slotAddr e.conf c)
  | none => e.setPath { e.path with sweep := none, resync := e.path.rerun, rerun := false }

/-- The sweep read of an address has been dealt with. -/
def Ev.sweepOn (e : Ev) (a : Addr) : Ev := if e.path.sweep == some a then e.sweepFrom (a.toNat + 1) else e

/-- A sweep begins when the resync flag is set and the list is empty (R20). -/
def Ev.sweepStart (e : Ev) : Ev :=
  if e.path.resync && e.path.list.isEmpty && e.path.sweep.isNone && e.working then e.sweepFrom 0 else e

/-! ## The catch-up list (R13, R16 to R18) -/

/-- Places of the list. -/
def listSize : Nat := 8

/-- The address is listed. -/
def Path.listed (p : Path) (a : Addr) : Bool := p.list.any (fun x => x.addr == a)

/-- A late write is recorded (R13). -/
def Path.record (p : Path) (a : Addr) : Path :=
  if p.listed a then p
  else if p.list.length < listSize then { p with list := p.list ++ [⟨a, false⟩] }
  else if p.sweep.isSome then { p with rerun := true }
  else { p with resync := true }

/-- An address leaves the list. -/
def Path.unlist (p : Path) (a : Addr) : Path := { p with list := p.list.filter (fun x => x.addr != a) }

/-- The mark read pending of an address. -/
def Path.setReading (p : Path) (a : Addr) (r : Bool) : Path :=
  { p with list := p.list.map (fun x => if x.addr == a then { x with reading := r } else x) }

/-- A catch-up read of an address is enqueued (R16). -/
def Ev.catchUp (e : Ev) (a : Addr) : Ev := (e.setPath (e.path.setReading a true)).offerRead .catchUp a

/-- A read of the path decoder for an address. -/
def ownRead (a : Addr) (c : Cycle) : Bool := (c.purpose == .catchUp || c.purpose == .sweep) && c.addr == a

/-- A cycle of an address that R18 removes from the insert queue. -/
def ownCycle (a : Addr) (c : Cycle) : Bool := ownRead a c || (c.purpose == .writeBack && c.addr == a)

/-- The cycles of the insert queue and those that wait for it. -/
def Inserts.pending (q : Inserts) : List Cycle := q.queue ++ q.waiting ++ q.behind

/-- The pending accesses of the path decoder for an address are cancelled, as its owner has taken or refused an
upstream write (R18). -/
def Ev.cancelLate (e : Ev) (a : Addr) : Ev :=
  let swept := e.ins.pending.any (fun c => c.purpose == Purpose.sweep && c.addr == a)
  let e := { e with ins := (e.ins.withdraw (ownCycle a)).discard (ownRead a) }
  let e := e.setPath (e.path.unlist a)
  if swept then e.sweepOn a else e

/-! ## Neutral writes of the configuration unit (R35, R40) -/

/-- The next neutral write is offered. -/
def Ev.nextNeutral (e : Ev) : Ev :=
  match e.cfg.neutralLeft with
  | c :: rest =>
    { e with cfg := { e.cfg with neutralNow := some c, neutralLeft := rest } }.offerWrite (.neutral c)
      (slotAddr e.conf c) (e.neutralValue c) false
  | [] => { e with cfg := { e.cfg with neutralNow := none } }

/-- The neutral write of a slot is cancelled, as its owner has taken or refused a host write (R40). One that is
granted already goes on. -/
def Ev.cancelNeutral (e : Ev) (c : CSlot) : Ev :=
  if e.cfg.neutralLeft.contains c then
    { e with cfg := { e.cfg with neutralLeft := e.cfg.neutralLeft.filter (· != c) } }
  else if e.cfg.neutralNow == some c && e.ins.pending.any (fun x => x.purpose == Purpose.neutral c) then
    { e with ins := e.ins.withdraw (fun x => x.purpose == Purpose.neutral c) }.nextNeutral
  else e

/-! ## Offers (R6, R11, R12) -/

/-- A refused upstream write completes with its REFUSED_VALUE entry (R6). -/
def Ev.refuseWrite (e : Ev) (c : CSlot) (a : Addr) (v : Word) : Ev :=
  (((e.cancelLate a).cancelNeutral c).finishAccess.ownRefusal c v).refusal .refusedValue a v

/-- A taken upstream write is forwarded, and its owner acts (R6). -/
def Ev.takeWrite (e : Ev) (c : CSlot) (a : Addr) (v : Word) : Ev :=
  (((e.cancelLate a).cancelNeutral c).forward (.write a v .none)).take c v false

/-- A write to a CONTROL slot is offered (R6); a busy one becomes the held write (R11). -/
def Ev.offerSlot (e : Ev) (c : CSlot) (a : Addr) (v : Word) : Ev :=
  match e.answer c v with
  | .taken => e.takeWrite c a v
  | .refused => e.refuseWrite c a v
  | .busy => { e with uport := .held a v c (e.now + e.path.holdLimit) }

/-- The held write is offered again (R12). -/
def Ev.reoffer (e : Ev) (c : CSlot) (a : Addr) (v : Word) : Ev :=
  match e.answer c v with
  | .taken => e.takeWrite c a v
  | .refused => e.refuseWrite c a v
  | .busy => e

/-- The hold timer of the held write expires (R13). A neutral write still to be made to the slot (R40) is kept: DESIGN CHOICE,
since R40 cancels it for a write taken or refused alone (log entry 38). -/
def Ev.holdTimerExpiry (e : Ev) : Ev :=
  match e.uport with
  | .held a v _ t => ((e.due t).forward (.write a v .none)).setPath (e.path.record a)
  | .idle | .kept _ | .waiting _ | .onPort _ _ => e

/-! ## Host accesses (R2 to R9, R15, R21, R22) -/

/-- A dropped write completes with a REFUSAL entry (R7, R9, R22). -/
def Ev.dropWrite (e : Ev) (code : EntryCode) (a : Addr) (v : Word) : Ev := (e.finishAccess).refusal code a v

/-- The store guard covers the address (R22). -/
def State.storeGuard (s : State) (a : Addr) : Bool :=
  match s.guardedProfile with
  | some n => inRecord s.conf n a
  | none => false

/-- An upstream write, classified (R2). -/
def Ev.writeAt (e : Ev) (a : Addr) (v : Word) : Ev :=
  if e.crashGuard && (e.placeOf a).crashCovered then e.countDrop.finishAccess
  else
    match e.placeOf a with
    | .config => e.forward (.write a v .config)
    | .outside => e.forward (.write a v .none)
    | .slot _ kind u =>
      if e.storeGuard a then e.dropWrite .storeGuard a v
      else if !e.unitFitted u then e.dropWrite .unfitted a v
      else
        match kind with
        | .control c => e.offerSlot c a v
        | .status _ => e.dropWrite .writeStatus a v
        | .owned => e.dropWrite .writeOwned a v
        | .record r => e.forward (.write a v r)
        | .free => e.forward (.write a v .none)

/-- An upstream read, served (R5). -/
def Ev.readAt (e : Ev) (a : Addr) : Ev :=
  match e.placeOf a with
  | .slot _ kind u =>
    if !e.unitFitted u then e.answerRead absent
    else
      match kind with
      | .status q => e.answerRead (e.statusWord q)
      | .control _ | .record _ | .owned | .free => e.forward (.read a)
  | .config | .outside => e.forward (.read a)

/-- An upstream write in FALLBACK (R3). -/
def Ev.writeFellBack (e : Ev) (a : Addr) (v : Word) : Ev :=
  e.forward (.write a v (if inConfig a then .config else .none))

/-- An upstream read in FALLBACK (R3). -/
def Ev.readFellBack (e : Ev) (a : Addr) : Ev :=
  match e.placeOf a with
  | .slot .seat (.status .configState) _ => e.answerRead (e.statusWord .configState)
  | _ => e.forward (.read a)

/-- An upstream access, decoded by the configuration state (R2, R3, R15). -/
def Ev.decode (e : Ev) (a : Access) : Ev :=
  if e.inReset || e.cfg.state == .loading then { e with uport := .kept a }
  else
    match a with
    | .read x => if e.fellBack then e.readFellBack x else e.readAt x
    | .write x v _ => if e.fellBack then e.writeFellBack x v else e.writeAt x v

/-- An upstream access arrives. The host starts none while one is in progress (chapter 1; log entry 2). -/
def Ev.arrive (e : Ev) (a : Access) : Ev := if e.uport == .idle then e.decode a else e

/-- A host write arrives. -/
def Ev.hostWrite (e : Ev) (a : Addr) (v : Word) : Ev := e.arrive (.write a v .none)

/-- A host read arrives. -/
def Ev.hostRead (e : Ev) (a : Addr) : Ev := e.arrive (.read a)

/-- The kept access is released (R15). -/
def Ev.releaseKept (e : Ev) : Ev :=
  match e.uport with
  | .kept a => e.finishAccess.decode a
  | .idle | .held _ _ _ _ | .waiting _ | .onPort _ _ => e

/-! ## Late values (R17, R20) -/

/-- The crash guard covers the address now. -/
def State.guardCovers (s : State) (a : Addr) : Bool := s.crashGuard && (s.placeOf a).crashCovered

/-- A late value is refused: the neutral write-back and the LATE_REFUSED entry (R17). -/
def Ev.lateRefused (e : Ev) (c : CSlot) (a : Addr) (v : Word) : Ev :=
  ((e.offerWrite .writeBack a (e.neutralValue c) false).ownRefusal c v).refusal .lateRefused a v

/-- A catch-up read completes (R17); `discard` says that its value is not to be offered. A late value that is taken or
refused leaves a neutral write of R40 still to be made to its slot (log entry 23). -/
def Ev.caughtUp (e : Ev) (a : Addr) (v : Word) (discard : Bool) : Ev :=
  let again := e.ins.pending.any (fun c => c.purpose == Purpose.catchUp && c.addr == a)
  let e := if again then e else e.setPath (e.path.setReading a false)
  if discard || e.guardCovers a || !e.path.listed a then e
  else
    match e.controlAt a with
    | none => e
    | some c =>
      match e.answer c v with
      | .taken => (e.setPath (e.path.unlist a)).take c v true
      | .refused => (e.setPath (e.path.unlist a)).lateRefused c a v
      | .busy => e

/-- A late value that the sweep could not hand over: the address is recorded, or the rerun mark set (R20). -/
def Ev.sweepLater (e : Ev) (a : Addr) : Ev := e.setPath (e.path.record a)

/-- The value of a sweep read is offered (R20). -/
def Ev.sweepOffer (e : Ev) (a : Addr) (v : Word) : Ev :=
  if e.guardCovers a then e.sweepLater a
  else
    match e.controlAt a with
    | none => e
    | some c =>
      match e.answer c v with
      | .taken => e.take c v true
      | .refused => e.lateRefused c a v
      | .busy => e.sweepLater a

/-- A sweep read completes (R20). One that R19 has cut off has another sweep read behind it, or no sweep. -/
def Ev.swept (e : Ev) (a : Addr) (v : Word) (discard : Bool) : Ev :=
  if e.ins.pending.any (fun c => c.purpose == Purpose.sweep) then e
  else if discard then e.sweepOn a
  else (e.sweepOffer a v).sweepOn a

/-! ## Owners' reports (R12, R16) -/

/-- The held write is offered again when its owner reports the slot free. -/
def Ev.reofferHeld (old : State) (e : Ev) : Ev :=
  match e.uport with
  | .held a v c _ => if old.slotFreed e.toState c then e.reoffer c a v else e
  | .idle | .kept _ | .waiting _ | .onPort _ _ => e

/-- A listed address is to be read: its owner reports the slot free and no guard covers it, or the guard that
covered it has ended (R16). -/
def State.toRead (old new : State) (x : Listed) : Bool :=
  !x.reading &&
    (match new.controlAt x.addr with
     | some c => (old.slotFreed new c && !new.guardCovers x.addr) ||
                   (old.crashGuard && !new.crashGuard && c.crashCovered)
     | none => false)

/-- Catch-up reads of the listed addresses named by the reports of an event, in list order. -/
def Ev.readListed (old : State) (e : Ev) : Ev :=
  (e.path.list.filter (fun x => old.toRead e.toState x)).foldl (fun e x => e.catchUp x.addr) e

/-- What the path decoder does with the reports of an event. R12 and R16 give no order between the held write and the
listed addresses of one event: the held write is offered first, and the listed addresses are judged on the state it
leaves (log entry 33). -/
def Ev.reports (old : State) (e : Ev) : Ev := ((e.reofferHeld old).readListed old)

end Sys2Proof.Machine
end

