-- ==== Sys2Proof/Machine/ConfigUnit.lean ====
section
/-! DEFINITION. The configuration unit (02_configuration_block_and_start_up.md): validation, start-up, FALLBACK, and
the application of a new configuration. -/

namespace Sys2Proof.Machine

/-- The configuration unit replaced within an event. -/
def Ev.setCfg (e : Ev) (u : ConfigUnit) : Ev := { e with cfg := u }

/-! ## Validation (R29, R37) -/

/-- The read of word `k` of the block. -/
def Ev.offerBlockRead (e : Ev) (k : Nat) : Ev := e.offerRead .validation (toAddr (configBase + k))

/-- A validation starts (R29, R33, R37). -/
def Ev.startValidation (e : Ev) (origin : Option ConfOrigin) : Ev :=
  (e.setCfg { e.cfg with state := if origin.isSome then .validating else .loading, origin := origin,
                         candidate := [], spoil := .clear, restart := false }).offerBlockRead 0

/-- A write to the block is reported (R37). -/
def Ev.configReport (e : Ev) (a : Addr) : Ev :=
  match e.cfg.state with
  | .active => if a == configCheck then e.startValidation (some .active) else e
  | .fallback => if a == configCheck then e.startValidation (some .fallback) else e
  | .validating =>
    e.setCfg { e.cfg with spoil := if e.cfg.spoil == .clear then .changed else e.cfg.spoil,
                          restart := e.cfg.restart || a == configCheck }
  | .loading => e

/-- The outcome of a validation: the spoil mark overrides the checks (R30). -/
def verdict (spoil : Spoil) (ws : List Word) : Option Failure :=
  match spoil with
  | .changed => some (.changedDuringCheck, none)
  | .crash => some (.crashDuringCheck, none)
  | .clear => failure ws

/-! ## Window tables (R1) -/

/-- The window table of a configuration. -/
def tableOf (w : Windows) : WindowTable :=
  ⟨some w.seat, some w.axis, some w.air, some w.climate, some w.profile, some w.journal⟩

/-- The window table of FALLBACK: the candidate's SEAT window if it is good on its own. -/
def fallbackTable (ws : List Word) : WindowTable :=
  if Window.goodAlone (windowOf ws .seat) .seat then { WindowTable.empty with seat := some (windowOf ws .seat) }
  else WindowTable.empty

/-! ## Start-up (R34, R35) -/

/-- Offer a start-up read. -/
def Ev.offerStart (e : Ev) (step : StartStep) (ws : List Word) (a : Addr) : Ev :=
  (e.setCfg { e.cfg with step := step, words := ws }).offerRead .startUp a

/-- The address of shadow word `k` of an axis. -/
def shadowAddr (k : Conf) (i : Fin 8) (n : Nat) : Addr := regionAddr k .axis (16 * i.val + 9 + n)

/-- Step 4: the crash record. -/
def Ev.startRecord (e : Ev) : Ev := e.offerStart .crashRecord [] (regionAddr e.conf .seat crashRecordOffset)

/-- Step 3: the journal header. -/
def Ev.startHeader (e : Ev) : Ev := e.offerStart .header [] (journalAddr e.conf 0)

/-- Step 2: the profile records. -/
def Ev.startProfile (e : Ev) (n : Fin 4) : Ev := e.offerStart (.profiles n) [] (profileAddr e.conf n 0)

/-- Step 1: the shadows of the fitted axes from a number on, then step 2. -/
def Ev.startShadows (e : Ev) (start : Nat) : Ev :=
  match allAxes.find? (fun i => decide (start ≤ i.val) && (e.axisConf i).fitted) with
  | some i => e.offerStart (.shadows i) [] (shadowAddr e.conf i 0)
  | none => e.startProfile 0

/-- Slots in ascending address. -/
def insertSlot (k : Conf) (c : CSlot) : List CSlot → List CSlot
  | [] => [c]
  | d :: t => if (slotAddr k c).toNat < (slotAddr k d).toNat then c :: d :: t else d :: insertSlot k c t

def sortSlots (k : Conf) (l : List CSlot) : List CSlot := l.foldr (insertSlot k) []

/-- The slots neutralised at start-up (R35). -/
def State.neutralSlots (s : State) : List CSlot :=
  sortSlots s.conf (allSlots.filter (fun c => s.slotFitted c && c != .readIndex))

/-- The neutral writes of start-up begin (R35). -/
def Ev.startNeutral (e : Ev) : Ev :=
  (e.setCfg { e.cfg with step := .neutral, words := [], neutralLeft := e.neutralSlots }).nextNeutral

/-- ACTIVE is entered (R35). -/
def Ev.enterActive (e : Ev) : Ev :=
  let e := e.setCfg { e.cfg with state := .active, origin := none, step := .none, words := [] }
  let e := e.setPath { e.path with table := tableOf e.conf.windows, holdLimit := e.conf.holdLimit }
  (e.budgetOpen.airOpen.crashOpen.tell .panel).releaseKept.tell .journal

/-- The values of a validation that succeeded come in force, and step 1 begins (R33, R34, R39); `code` is the
entry that opens the start-up. -/
def Ev.beginStart (e : Ev) (k : Conf) (code : EntryCode) (detail : Word) : Ev :=
  let e := e.setCfg { e.cfg with state := .loading, origin := none, inForce := some k, candidate := [],
                                 spoil := .clear, restart := false }
  let e := e.setPath { e.path with table := WindowTable.empty }
  let e := allAxes.foldl Ev.limitsFromStroke e
  (e.hand code absent detail).startShadows 0

/-- Detail of the RESET entry (section 11.4). -/
def resetDetail : ResetCause → Word
  | .por => 1
  | .rstn => 2

/-- A start-up read completes (R34). -/
def Ev.startUpRead (e : Ev) (w : Word) : Ev :=
  let ws := e.cfg.words ++ [w]
  match e.cfg.step with
  | .shadows i =>
    if ws.length < 3 then e.offerStart (.shadows i) ws (shadowAddr e.conf i ws.length)
    else (e.shadowRead i (cand ws 0) (cand ws 1) (cand ws 2)).startShadows (i.val + 1)
  | .profiles n =>
    if ws.length < 32 then e.offerStart (.profiles n) ws (profileAddr e.conf n ws.length)
    else
      let e := e.profileRead n ws
      if n == 3 then e.startHeader else e.startProfile (n + 1)
  | .header =>
    if ws.length < 4 then e.offerStart .header ws (journalAddr e.conf ws.length)
    else
      let e := (e.setCfg { e.cfg with step := .journalInit, words := [] }).headerRead (cand ws 0) (cand ws 1)
        (cand ws 2) (cand ws 3)
      if e.journal.ring == .ready then e.startRecord else e
  | .crashRecord => (e.setCfg { e.cfg with crashRecord := w }).startNeutral
  | .none | .journalInit | .neutral => e

/-- An initialising write of the ring has completed: the last ends step 3 (R34). -/
def Ev.ringStarted (e : Ev) : Ev :=
  if e.cfg.step == .journalInit && e.journal.ring == .ready then e.startRecord else e

/-- A neutral write completes (R35, R40). -/
def Ev.neutralDone (e : Ev) (c : CSlot) : Ev :=
  if e.cfg.neutralNow == some c then
    let e := e.nextNeutral
    if e.cfg.step == .neutral && e.cfg.neutralNow.isNone then e.enterActive else e
  else e

/-! ## Rejection (R36, R39) -/

/-- FALLBACK is entered or returned to (R1, R36, R180). -/
def Ev.enterFallback (e : Ev) : Ev :=
  let e := e.setPath { e.path with table := fallbackTable e.cfg.candidate }
  let e := e.setCfg { e.cfg with state := .fallback, origin := none, candidate := [], spoil := .clear }
  (e.setJournal { e.journal with staging := [], overrunMark := false }).releaseKept

/-- The subject of a REJECTED entry (section 11.4). -/
def subjectWord (s : Option Nat) : Word := toWord (s.getD 0xFF)

/-- A validation is rejected (R30, R39). -/
def Ev.rejected (e : Ev) (f : Failure) : Ev :=
  let e := e.setCfg { e.cfg with lastReason := f.1, lastSubject := f.2 }
  if e.cfg.origin == some .active then
    (e.setCfg { e.cfg with state := .active, origin := none, candidate := [], spoil := .clear }).hand .rejected (subjectWord f.2)
      (toWord (reasonCode f.1))
  else e.enterFallback

/-- A validation set off again by the restart mark (R39). -/
def Ev.restartIf (e : Ev) (restart : Bool) : Ev :=
  if !restart then e
  else
    match e.cfg.state with
    | .active => e.startValidation (some .active)
    | .fallback => e.startValidation (some .fallback)
    | .loading | .validating => e.setCfg { e.cfg with restart := false }

/-! ## Application (R40 to R43) -/

/-- Reads and write-backs of the path decoder. -/
def pathCycle (c : Cycle) : Bool := c.purpose == .catchUp || c.purpose == .sweep || c.purpose == .writeBack

/-- The catch-up list, the resync flag and the sweep when a window has moved (R19). -/
def Ev.pathMoved (e : Ev) : Ev :=
  let e := { e with ins := (e.ins.withdraw pathCycle).discard pathCycle }
  e.setPath { e.path with list := [], sweep := none, rerun := false, resync := true }

/-- A listed address of a unit that has become unfitted leaves the list (R19). -/
def Ev.unlistUnfitted (e : Ev) (x : Listed) : Ev :=
  if (e.controlAt x.addr).isSome then e
  else
    let p := fun (c : Cycle) => c.purpose == Purpose.catchUp && c.addr == x.addr
    { e with ins := (e.ins.withdraw p).discard p }.setPath (e.path.unlist x.addr)

/-- The write held in the event is forwarded (R14). -/
def Ev.letThrough (e : Ev) (moved : Bool) : Ev :=
  match e.uport with
  | .held a v c _ =>
    let e := e.forward (.write a v .none)
    if moved || !e.slotFitted c then e else e.setPath (e.path.record a)
  | .idle | .kept _ | .waiting _ | .onPort _ _ => e

/-- The path decoder's answer to a new configuration (R14, R19, R40). Where no window has moved, the held write is
recorded before unfitted addresses leave the list: the rules give no order (log entry 33). -/
def Ev.pathApply (old : Conf) (e : Ev) : Ev :=
  let moved := decide (old.windows ≠ e.conf.windows)
  let e := e.setPath { e.path with table := tableOf e.conf.windows, holdLimit := e.conf.holdLimit }
  let e := e.letThrough moved
  if moved then e.pathMoved else e.path.list.foldl Ev.unlistUnfitted e

/-- A CONTROL slot of a unit that was not fitted under a configuration. -/
def slotFittedIn (k : Conf) (c : CSlot) : Bool :=
  match c with
  | .axTarget i | .axJog i | .axDuty i | .axLimitLo i | .axLimitHi i => k.axes[i].fitted
  | .airTarget n => k.chambers[n].fitted
  | .level z => k.zones[z].fitted
  | .recall | .store | .massage | .panelEnable | .crashClear | .readIndex => true

/-- The neutral writes of newly fitted units (R40), with those of an earlier application still to be made. -/
def Ev.neutralApply (old : Conf) (e : Ev) : Ev :=
  let due := allSlots.filter (fun c =>
    e.slotFitted c && (!slotFittedIn old c || e.cfg.neutralLeft.contains c))
  let e := e.setCfg { e.cfg with neutralLeft := sortSlots e.conf due }
  if e.cfg.neutralNow.isNone then e.nextNeutral else e

/-- Something is claimed, so that the order of releases and shed can matter (R90). -/
def State.anyClaim (s : State) : Bool := s.budget.table.toList.any (fun c => c.state != .none)

/-- The stops and releases of the axes and the zones, and the budget's shed to fit, in either order (R41, R42, R90; log
entry 4). An axis shed first ends with SUPPLY_LOW, one stopped first with CONFIG; the axes stop and release in ascending
number, and before the zones: DESIGN CHOICE, since no rule orders the releases of axes and zones (log entry 33). -/
def Ev.loadsApply (old : Conf) (e : Ev) : Ev :=
  let stops := fun (e : Ev) => (allAxes.foldl (Ev.axisApply old) e).climateApply old
  let shed := fun (e : Ev) => e.shedToFit.axesShed
  let e := e.budgetReunit
  if e.anyClaim then e.either stops shed else shed (stops e)

/-- A new configuration is applied (R40 to R43). The axes stop before the recall is aborted, so that a running leg ends
with CONFIG (R41, R109). R90 lets the release of an unfitted pump and the shed to fit be taken in either order: the
pump's release follows the shed (log entry 33). -/
def Ev.applyConf (e : Ev) (k : Conf) : Ev :=
  let old := e.conf
  let e := e.setCfg { e.cfg with state := .active, origin := none, inForce := some k, candidate := [],
                                 spoil := .clear }
  let e := ((e.pathApply old).journalApply old).hand .applied absent absent
  let e := (e.loadsApply old).abortRecall .config
  let e := (e.airApply old).panelApply.engineApply old
  e.neutralApply old

/-! ## The outcome (R39) -/

/-- The spoil mark when the checks are made: a validation from ACTIVE while RESTORING is spoiled (R39). -/
def State.spoilAtChecks (s : State) : Spoil :=
  if s.cfg.spoil == .clear && s.cfg.origin == some .active && s.crash.state == .restoring then .crash
  else s.cfg.spoil

/-- The checks are made on the candidate (R29, R30, R39). -/
def Ev.validated (e : Ev) : Ev :=
  let restart := e.cfg.restart
  let ws := e.cfg.candidate
  let e' :=
    match verdict e.spoilAtChecks ws, e.cfg.origin with
    | some f, _ => e.rejected f
    | none, none => e.beginStart (confOf ws) .reset (resetDetail e.cfg.cause)
    | none, some .fallback => e.beginStart (confOf ws) .applied absent
    | none, some .active => e.applyConf (confOf ws)
  e'.restartIf restart

/-- A validation read completes (R29). -/
def Ev.validationRead (e : Ev) (w : Word) : Ev :=
  let e := e.setCfg { e.cfg with candidate := e.cfg.candidate ++ [w] }
  if e.cfg.candidate.length < 256 then e.offerBlockRead e.cfg.candidate.length else e.validated

end Sys2Proof.Machine
end

