-- ==== Sys2Proof/Machine/Port.lean ====
section
/-! DEFINITION. The D-port arbiter and the delivery of completions (R24 to R26). -/

namespace Sys2Proof.Machine

/-- The word an access moves when it is granted (R25). -/
def State.accessWord (s : State) : Access → Word
  | .read a => s.word a
  | .write _ v _ => v

/-- The report of a forwarded write that has taken effect (R3, R4, R8). -/
def Ev.report (e : Ev) : Access → Ev
  | .write a _ .config => e.configReport a
  | .write _ _ (.profile n) => e.profileReport n
  | .write _ _ .none | .read _ => e

/-- The effect of a granted upstream access in image memory. -/
def Ev.accessEffect (e : Ev) : Access → Ev
  | .read _ => e
  | .write a v _ => e.putWord a v

/-- The upstream access is granted (R24, R25); `passed` says that an inserted cycle was passed over. -/
def Ev.grantUpstream (e : Ev) (a : Access) (passed : Bool) : Ev :=
  let w := e.accessWord a
  let e := e.accessEffect a
  let q := { e.ins with port := .upstream, passOver := e.ins.passOver + bit passed }
  { e with uport := .onPort a w, ins := q }.report a

/-- Purposes whose completion no block waits for: the write is over at its grant (log entry 6). -/
def Purpose.silent : Purpose → Bool
  | .writeBack | .axisNeutral _ _ | .chamberNeutral _ | .crashRecord | .crashClearNeutral => true
  | .validation | .startUp | .neutral _ | .marker _ | .parking _ | .profileCheck | .storeWrite | .recallRead
  | .seatNeutral _ | .patternFetch | .massageMirror | .levelMirror _ | .catchUp | .sweep | .journalInit
  | .append | .headerRefresh | .recount => false

/-- The word an inserted cycle moves when it is granted (R25). -/
def State.cycleWord (s : State) (c : Cycle) : Word := if c.write then c.value else s.word c.addr

/-- An inserted cycle is granted: it takes effect, and its place in the queue is filled (R23 to R25). -/
def Ev.grantInserted (e : Ev) (c : Cycle) (rest : List Cycle) : Ev :=
  let w := e.cycleWord c
  let e := if c.write then e.putWord c.addr c.value else e
  let q := { e.ins with queue := rest, passOver := 0,
                        port := if c.purpose.silent then .free else .inserted c w }
  { e with ins := q.admitAll queueSize }

/-- The head of the insert queue: the oldest urgent entry, or else the oldest (R24). -/
def Inserts.head (q : Inserts) : Option (Cycle × List Cycle) :=
  (takeFirst (·.urgent) q.queue).or (takeFirst (fun _ => true) q.queue)

/-- The forwarded upstream access. -/
def State.forwarded (s : State) : Option Access :=
  match s.uport with
  | .waiting a => some a
  | .idle | .kept _ | .held _ _ _ _ | .onPort _ _ => none

/-- Pass-overs before the insert head is granted (R24). -/
def passLimit : Nat := 8

/-- The arbiter decides, the D-port being free (R24). -/
def Ev.arbitrate (e : Ev) : Ev :=
  match e.forwarded, e.ins.head with
  | none, none => e
  | some a, none => e.grantUpstream a false
  | none, some (c, rest) => e.grantInserted c rest
  | some a, some (c, rest) =>
    if e.ins.passOver < passLimit then e.grantUpstream a true else e.grantInserted c rest

/-- DPORT_GRANT: the arbiter decides if the D-port is free. -/
def Ev.grantPort (e : Ev) : Ev := if e.ins.port == .free then e.arbitrate else e

/-- The D-port is free again. -/
def Ev.freePort (e : Ev) : Ev := { e with ins := { e.ins with port := .free } }

/-- The upstream access completes (R25). -/
def Ev.upstreamDone (e : Ev) : Ev :=
  match e.ins.port, e.uport with
  | .upstream, .onPort (.read _) w => e.freePort.answerRead w
  | .upstream, .onPort (.write _ _ _) _ => e.freePort.finishAccess
  | _, _ => e

/-- An inserted cycle on the D-port whose purpose satisfies `p` completes: the port is free and `f` is handed the
cycle and its word. Where no such cycle is on the port, nothing happens (log entry 2). -/
def Ev.complete (e : Ev) (p : Purpose → Bool) (f : Ev → Cycle → Word → Ev) : Ev :=
  match e.ins.port with
  | .inserted c w => if p c.purpose then f e.freePort c w else e
  | .free | .upstream => e

/-- The completion of a cycle whose block has no more use for its value does nothing else. -/
def Ev.deliver (e : Ev) (p : Purpose → Bool) (f : Ev → Cycle → Word → Ev) : Ev :=
  e.complete p (fun e c w => if c.discard then e else f e c w)

end Sys2Proof.Machine
end

