-- ==== Sys2Proof/Machine/Settle.lean ====
section
/-! DEFINITION. One event carried through: the blocks are told what concerns them until nothing is left to be told,
then the path decoder acts on the owners' reports (R12, R16, R20; log entry 29). -/

namespace Sys2Proof.Machine

/-- The claimants' owners (section 4.1). -/
inductive Owner
  | axis (i : Fin 8)
  | pump
  | zone (z : Fin 6)
  deriving DecidableEq, Repr

/-- The owner of a claimant. -/
def ownerOf (c : Fin 15) : Owner :=
  if h : c.val < 8 then .axis ⟨c.val, h⟩
  else if c.val = 8 then .pump
  else .zone ⟨c.val - 9, by omega⟩

/-- The budget's decision reaches its owner (R75). -/
def Ev.tellOwner (e : Ev) (c : Fin 15) (o : Told) : Ev :=
  match ownerOf c with
  | .axis i => e.axisTold i o
  | .pump => e.pumpTold o
  | .zone z => e.zoneTold z o

/-- An end report reaches the job it was made for (section 3.2). -/
def Ev.axisEnded (e : Ev) (i : Fin 8) (m : Mover) (cause : StopCause) (onlyPending : Bool) (ms : Nat)
    (atOnce : Bool) : Ev :=
  match m with
  | .recall => e.legEnd i cause onlyPending
  | .crash => e.crashLegEnd i cause ms atOnce
  | .restore => e.restoreLegEnd i cause onlyPending atOnce
  | .panel | .image => e

/-- A parked report reaches the job it was made for. -/
def Ev.axisHasParked (e : Ev) (i : Fin 8) (m : Mover) : Ev :=
  match m with
  | .recall => e.legParked i
  | .crash | .restore => e.crashLegParked i m
  | .panel | .image => e

/-- One thing is told. -/
def Ev.handle (e : Ev) : Sig → Ev
  | .told c o => e.tellOwner c o
  | .axisEnd i m cause onlyPending ms atOnce => e.axisEnded i m cause onlyPending ms atOnce
  | .axisParked i m => e.axisHasParked i m
  | .journal => e.journalKick
  | .pump => e.pumpSync
  | .recallStep => e.recallStep
  | .queuedRecall => e.takeQueued
  | .profileCheck => e.beginCheck
  | .crashStep => e.crashStep
  | .riseEnd => e.endRise
  | .massageStep => e.massageStep
  | .massageMirror => e.mirrorMassage
  | .panel => e.panelSync
  | .zoneEnd z => e.zoneEnd z

/-- Everything to be told is told, in the order in which it arose. -/
def Ev.drain : Nat → Ev → Ev
  | 0, e => e
  | n + 1, e =>
    match e.sigs with
    | [] => e
    | x :: rest => Ev.drain n ({ e with sigs := rest }.handle x)

/-- Above the number of things one event can give rise to (log entry 29). -/
def drainBound : Nat := 1000

/-- The end of an event: the work list, the owners' reports, a sweep that may begin. -/
def Ev.settled (e : Ev) (old : State) : Ev :=
  let e := e.drain drainBound
  let e := (e.reports old).drain drainBound
  e.sweepStart

/-- One event: `f` is the effect of its command, and the rest follows from it. Image memory changes in the
grant of a D-port cycle alone (R25), and no command touches the queue of commands. -/
def State.event (s : State) (f : Ev → Ev) : Host.Outcome State Fault Refusal :=
  .next { ((f s.ev).settled s).toState with mem := s.mem, pending := s.pending }

/-- An event of a part at work: during a reset nothing but the reset's own events happens (R25, R33). -/
def State.running (s : State) (f : Ev → Ev) : Host.Outcome State Fault Refusal :=
  if s.inReset then .next s else s.event f

/-- The memory the arbiter's decision leaves (R24, R25). -/
def State.grantedMem (s : State) : List (Nat × Word) := (s.ev.grantPort).mem

/-- The event of a grant: a granted write is in image memory from then on (R25). -/
def State.granting (s : State) : Host.Outcome State Fault Refusal :=
  if s.inReset then .next s
  else .next { ((s.ev.grantPort).settled s).toState with mem := s.grantedMem, pending := s.pending }

end Sys2Proof.Machine
end

