-- ==== Sys2Proof/Machine/AxisCommands.lean ====
section
/-! DEFINITION. The commands of the axis controller (chapter 3). -/

namespace Sys2Proof.Machine

/-- The axis of a marker write. -/
def Purpose.markerAxis : Purpose → Option (Fin 8)
  | .marker i => some i
  | _ => none

/-- The axis of a parking write. -/
def Purpose.parkingAxis : Purpose → Option (Fin 8)
  | .parking i => some i
  | _ => none

/-- The marker write of a purpose has completed. -/
def Ev.markerDone (e : Ev) (p : Purpose) : Ev :=
  match p.markerAxis with
  | some i => e.markerWritten i
  | none => e

/-- The parking write of a purpose has completed. -/
def Ev.parkingDone (e : Ev) (p : Purpose) : Ev :=
  match p.parkingAxis with
  | some i => e.parkingWritten i
  | none => e

/-- A MOVING marker write completes (R50). -/
def execMarkerWriteComplete (s : State) : Host.Outcome State Fault Refusal :=
  s.running (fun e => e.complete (fun p => p.markerAxis.isSome) (fun e c _ => e.markerDone c.purpose))

/-- A parking write completes (R56). -/
def execParkingWriteComplete (s : State) : Host.Outcome State Fault Refusal :=
  s.running (fun e => e.complete (fun p => p.parkingAxis.isSome) (fun e c _ => e.parkingDone c.purpose))

/-- A hall edge (R57). -/
def execHallEdge (axis : Fin 8) (dt : Nat) (s : State) : Host.Outcome State Fault Refusal :=
  s.running (fun e => (e.pass dt).hallEdge axis)

/-- A motor current sample (R53). -/
def execMotorCurrentSample (axis : Fin 8) (sample : Word) (s : State) : Host.Outcome State Fault Refusal :=
  s.running (fun e => e.motorSample axis sample)

/-- 150 ms after energising (R53). -/
def execStartBlankingEnd (axis : Fin 8) (s : State) : Host.Outcome State Fault Refusal :=
  s.running (fun e => e.blankingEnd axis)

/-- The time since the last edge passes 1.5 times the baseline (R53). -/
def execHallPeriodTimeout (axis : Fin 8) (s : State) : Host.Outcome State Fault Refusal :=
  s.running (fun e => e.hallTimeout axis)

/-- A stall window passes with no edge (R52). -/
def execStallTimerExpiry (axis : Fin 8) (s : State) : Host.Outcome State Fault Refusal :=
  s.running (fun e => e.stallExpiry axis)

/-- The reversal dead time ends (R54). -/
def execReversalDeadTimeEnd (axis : Fin 8) (s : State) : Host.Outcome State Fault Refusal :=
  s.running (fun e => e.reversalEnd axis)

/-- The coast window ends (R55). -/
def execCoastWindowEnd (axis : Fin 8) (s : State) : Host.Outcome State Fault Refusal :=
  s.running (fun e => e.coastEnd axis)

/-- The dead time of a CRASH request ends (R70). -/
def execCrashDeadTimeEnd (axis : Fin 8) (s : State) : Host.Outcome State Fault Refusal :=
  s.running (fun e => e.crashDeadEnd axis)

/-- A RESTORE(time) move reaches its energised time (R51). -/
def execRestoreTimeReached (axis : Fin 8) (s : State) : Host.Outcome State Fault Refusal :=
  s.running (fun e => e.restoreTime axis)

/-- 10 ms of energised time have passed (R60). -/
def execThermalRiseTick (axis : Fin 8) (s : State) : Host.Outcome State Fault Refusal :=
  s.running (fun e => e.thermalRise axis)

/-- 100 ms have passed for the thermal count (R60). -/
def execThermalFallTick (axis : Fin 8) (s : State) : Host.Outcome State Fault Refusal :=
  s.running (fun e => e.thermalFall axis)

end Sys2Proof.Machine
end

