-- ==== Sys2Proof/Machine/ComfortCommands.lean ====
section
/-! DEFINITION. The commands of the chamber controller and the climate controller (chapters 7 and 8). -/

namespace Sys2Proof.Machine

/-- The zone of a LEVEL mirror write. -/
def Purpose.levelZone : Purpose → Option (Fin 6)
  | .levelMirror z => some z
  | _ => none

/-- The LEVEL mirror write has completed. -/
def Ev.levelDone (e : Ev) (p : Purpose) : Ev :=
  match p.levelZone with
  | some z => e.mirrorLevelDone z
  | none => e

/-- A chamber pressure sample (R128). -/
def execPressureSample (chamber : Fin 12) (sample : Word) (s : State) : Host.Outcome State Fault Refusal :=
  s.running (fun e => e.pressureSample chamber sample)

/-- A pump current sample (R127). -/
def execPumpCurrentSample (sample : Word) (s : State) : Host.Outcome State Fault Refusal :=
  s.running (fun e => e.pumpSample sample)

/-- A pattern fetch read completes (R135). -/
def execPatternFetchReadComplete (s : State) : Host.Outcome State Fault Refusal :=
  s.running (fun e => e.deliver (· == .patternFetch) (fun e _ w => e.fetchWord w))

/-- A phase timer of a massage step expires (R139). -/
def execMassagePhaseTimerExpiry (s : State) : Host.Outcome State Fault Refusal :=
  s.running (fun e => e.phaseExpiry)

/-- The session timer expires (R140). -/
def execMassageSessionExpiry (s : State) : Host.Outcome State Fault Refusal :=
  s.running (fun e => e.sessionExpiry)

/-- A mirror write of SEAT MASSAGE completes (R141). -/
def execMassageMirrorWriteComplete (s : State) : Host.Outcome State Fault Refusal :=
  s.running (fun e => e.complete (· == .massageMirror) (fun e _ _ => e.mirrorMassageDone))

/-- A climate arrival (R147). -/
def execClimateArrival (zone : Fin 6) (data : Arrival) (s : State) : Host.Outcome State Fault Refusal :=
  s.running (fun e => e.climateArrival zone data)

/-- The level has stood at 3 for the step-down time (R153). -/
def execStepDownExpiry (zone : Fin 6) (s : State) : Host.Outcome State Fault Refusal :=
  s.running (fun e => e.stepDownExpiry zone)

/-- A LEVEL mirror write completes (R157). -/
def execLevelMirrorWriteComplete (s : State) : Host.Outcome State Fault Refusal :=
  s.running (fun e => e.complete (fun p => p.levelZone.isSome) (fun e c _ => e.levelDone c.purpose))

end Sys2Proof.Machine
end

