-- ==== Sys2Proof/Machine/ConfigCommands.lean ====
section
/-! DEFINITION. The commands of the configuration unit (chapter 2). -/

namespace Sys2Proof.Machine

/-- A neutral write of the configuration unit. -/
def Purpose.isNeutral : Purpose → Bool
  | .neutral _ => true
  | .validation | .startUp | .marker _ | .parking _ | .axisNeutral _ _ | .profileCheck | .storeWrite
  | .recallRead | .seatNeutral _ | .chamberNeutral _ | .patternFetch | .massageMirror | .levelMirror _
  | .crashRecord | .crashClearNeutral | .catchUp | .sweep | .writeBack | .journalInit | .append
  | .headerRefresh | .recount => false

/-- The neutral write of a purpose has completed. -/
def Ev.neutralWritten (e : Ev) : Purpose → Ev
  | .neutral c => e.neutralDone c
  | _ => e

/-- A read of the configuration block completes (R29). -/
def execValidationReadComplete (s : State) : Host.Outcome State Fault Refusal :=
  s.running (fun e => e.deliver (· == .validation) (fun e _ w => e.validationRead w))

/-- A start-up read completes (R34). -/
def execStartUpReadComplete (s : State) : Host.Outcome State Fault Refusal :=
  s.running (fun e => e.deliver (· == .startUp) (fun e _ w => e.startUpRead w))

/-- A neutral write of the configuration unit completes (R35, R40). -/
def execNeutralWriteComplete (s : State) : Host.Outcome State Fault Refusal :=
  s.running (fun e => e.complete Purpose.isNeutral (fun e c _ => e.neutralWritten c.purpose))

end Sys2Proof.Machine
end

