-- ==== Sys2Proof/Machine/CrashCommands.lean ====
section
/-! DEFINITION. The commands of the safety link and the crash controller (chapter 9). -/

namespace Sys2Proof.Machine

/-- SLINK has been high for 2 ms (R162). -/
def execLinkReady (s : State) : Host.Outcome State Fault Refusal :=
  s.running (fun e => e.linkReady)

/-- A valid ARM frame (R164, R169). -/
def execArm (s : State) : Host.Outcome State Fault Refusal :=
  s.running (fun e => e.frame codeArm none Ev.takeArm)

/-- A valid PULL frame (R164, R170, R171). -/
def execPull (severity : Byte) (s : State) : Host.Outcome State Fault Refusal :=
  s.running (fun e => e.frame codePull (some severity) (fun e => e.takePull severity))

/-- A valid RELEASE frame (R164, R174). -/
def execRelease (s : State) : Host.Outcome State Fault Refusal :=
  s.running (fun e => e.frame codeRelease none Ev.takeRelease)

/-- A valid IMPACT frame (R164, R177). -/
def execImpact (s : State) : Host.Outcome State Fault Refusal :=
  s.running (fun e => e.frame codeImpact none Ev.takeImpact)

/-- A valid QUERY frame (R164, R166). -/
def execQuery (bitTime : Nat) (s : State) : Host.Outcome State Fault Refusal :=
  s.running (fun e => e.queryFrame bitTime)

/-- A frame fails (R165). -/
def execLinkReceiveError (kind : LinkError) (detail : Word) (s : State) : Host.Outcome State Fault Refusal :=
  s.running (fun e => e.receiveError kind detail)

/-- The line has stood still inside a frame (R165). -/
def execIdleTimeout (s : State) : Host.Outcome State Fault Refusal :=
  s.running (fun e => e.lineStill)

/-- TURNAROUND ends (R166). -/
def execTurnaroundEnd (s : State) : Host.Outcome State Fault Refusal :=
  s.running (fun e => e.turnaroundEnd)

/-- A falling edge during TURNAROUND (R166). -/
def execReplyCancel (s : State) : Host.Outcome State Fault Refusal :=
  s.running (fun e => e.cancelReply)

/-- A low sample at a released bit of the reply (R166). -/
def execReplyAbandon (s : State) : Host.Outcome State Fault Refusal :=
  s.running (fun e => e.abandonReply)

/-- The reply ends (R166). -/
def execReplyEnd (s : State) : Host.Outcome State Fault Refusal :=
  s.running (fun e => e.replyEnd)

/-- The arm hold timer expires (R169). -/
def execArmHoldTimerExpiry (s : State) : Host.Outcome State Fault Refusal :=
  s.running (fun e => e.armExpiry)

/-- The pull timer expires (R172, R173). -/
def execPullTimerExpiry (s : State) : Host.Outcome State Fault Refusal :=
  s.running (fun e => e.pullExpiry)

/-- The crash hold timer expires (R174). -/
def execCrashHoldTimerExpiry (s : State) : Host.Outcome State Fault Refusal :=
  s.running (fun e => e.holdExpiry)

/-- A falling edge starts a SYNC field (R162). -/
def execSyncFieldStart (dt : Nat) (s : State) : Host.Outcome State Fault Refusal :=
  s.running (fun e => e.syncStart dt)

/-- An edge of SLINK (R162 to R164). -/
def execSlinkEdge (dt : Nat) (rising : Bool) (s : State) : Host.Outcome State Fault Refusal :=
  s.running (fun e => e.lineEdge dt rising)

/-- A stop sample is high (R163, R164). -/
def execFieldReceived (byte : Byte) (s : State) : Host.Outcome State Fault Refusal :=
  s.running (fun e => e.fieldReceived byte)

end Sys2Proof.Machine
end

