-- ==== Sys2Proof/Machine/JobCommands.lean ====
section
/-! DEFINITION. The commands of the load budget, the recall and store engine and the switch panel (chapters 4 to 6). -/

namespace Sys2Proof.Machine

/-- A WAITING claim of a limited class reaches its limit (R82). -/
def Ev.waitExpiry (e : Ev) (c : Fin 15) : Ev :=
  let x := e.budget.table[c]
  match x.state, x.since, x.wait.limit with
  | .waiting, some t, some n => (e.due (t + n)).refuseClaim c
  | _, _, _ => e

/-- The slot of a neutral write of the engine: true for STORE. -/
def Purpose.seatSlot : Purpose → Option Bool
  | .seatNeutral st => some st
  | _ => none

/-- The slot's neutral write has completed. -/
def Ev.seatSlotDone (e : Ev) (p : Purpose) : Ev :=
  match p.seatSlot with
  | some st => e.seatNeutralDone st
  | none => e

/-- A supply voltage sample (R84, R85). -/
def execSupplySample (sample : Word) (s : State) : Host.Outcome State Fault Refusal :=
  s.running (fun e => e.supply sample)

/-- A waiting claim reaches its wait limit (R82). -/
def execWaitLimitExpiry (claimant : Fin 15) (s : State) : Host.Outcome State Fault Refusal :=
  s.running (fun e => e.waitExpiry claimant)

/-- A read of a profile check completes (R94). -/
def execProfileCheckReadComplete (s : State) : Host.Outcome State Fault Refusal :=
  s.running (fun e => e.complete (· == .profileCheck) (fun e c w => if c.discard then e.tell .profileCheck else e.checkWordRead w))

/-- A store write completes (R97, R98). -/
def execStoreWriteComplete (s : State) : Host.Outcome State Fault Refusal :=
  s.running (fun e => e.deliver (· == .storeWrite) (fun e _ _ => e.storeWritten))

/-- A read of a recall completes (R100, R105). -/
def execRecallReadComplete (s : State) : Host.Outcome State Fault Refusal :=
  s.running (fun e => e.complete (· == .recallRead) (fun e c w => if c.discard then e.recallReadDropped else e.recallWordRead w))

/-- The neutral write of SEAT RECALL or STORE completes (R107). -/
def execSlotNeutralWriteComplete (s : State) : Host.Outcome State Fault Refusal :=
  s.running (fun e => e.complete (fun p => p.seatSlot.isSome) (fun e c _ => e.seatSlotDone c.purpose))

/-- The active line is sampled at the end of a scan dwell (R111). -/
def execLineSample (closed : BitVec 6) (s : State) : Host.Outcome State Fault Refusal :=
  s.running (fun e => e.lineSample closed)

/-- A member's hold timer expires (R112, R120). -/
def execKeyHoldTimerExpiry (key : Fin 30) (s : State) : Host.Outcome State Fault Refusal :=
  s.running (fun e => e.keyHold key)

/-- The store window timer expires (R118). -/
def execStoreWindowExpiry (s : State) : Host.Outcome State Fault Refusal :=
  s.running (fun e => e.windowExpiry)

end Sys2Proof.Machine
end

