-- ==== Sys2Proof/Machine/JournalCommands.lean ====
section
/-! DEFINITION. The commands of the journal writer (chapter 10). -/

namespace Sys2Proof.Machine

/-- An initialising write of the ring completes (R34, R43, R180). -/
def execJournalInitWriteComplete (s : State) : Host.Outcome State Fault Refusal :=
  s.running (fun e => e.complete (· == .journalInit) (fun e _ w => (e.journalWritten w).ringStarted))

/-- An append write completes (R182). -/
def execAppendWriteComplete (s : State) : Host.Outcome State Fault Refusal :=
  s.running (fun e => e.complete (· == .append) (fun e _ w => e.journalWritten w))

/-- A header refresh write completes (R183). -/
def execHeaderRefreshWriteComplete (s : State) : Host.Outcome State Fault Refusal :=
  s.running (fun e => e.complete (· == .headerRefresh) (fun e _ w => e.journalWritten w))

/-- A recount read completes (R185). -/
def execRecountReadComplete (s : State) : Host.Outcome State Fault Refusal :=
  s.running (fun e => e.complete (· == .recount) (fun e _ w => e.recountRead w))

end Sys2Proof.Machine
end

