-- ==== Sys2Proof/Machine/PathCommands.lean ====
section
/-! DEFINITION. The commands of the reset and of the memory path (chapter 1). -/

namespace Sys2Proof.Machine

/-- POR or RSTN is asserted: every block takes its reset state; image memory keeps every granted write, and no
completion is delivered (R25). -/
def execReset (cause : ResetCause) (s : State) : Host.Outcome State Fault Refusal :=
  .next (State.afterReset cause s.mem s.pending s.order)

/-- The reset ends: the clock of the part starts at 0, the link receiver listens, and the first validation starts
(R33, R162). -/
def Ev.endReset (e : Ev) : Ev :=
  let e := { e with inReset := false, now := 0 }
  (e.setLink { e.link with lineHigh := true, lineSince := 0 }).startValidation none

/-- POR or RSTN ends (R33). -/
def execResetEnd (s : State) : Host.Outcome State Fault Refusal :=
  if s.inReset then s.event Ev.endReset else .next s

/-- A host read arrives on the U-port (R2, R3, R5, R15). -/
def execUpstreamRead (addr : Addr) (s : State) : Host.Outcome State Fault Refusal :=
  s.event (fun e => e.hostRead addr)

/-- A host write arrives on the U-port (R2, R3, R6 to R9, R15, R21, R22). -/
def execUpstreamWrite (addr : Addr) (value : Word) (s : State) : Host.Outcome State Fault Refusal :=
  s.event (fun e => e.hostWrite addr value)

/-- The arbiter decides (R24, R25). -/
def execDportGrant (s : State) : Host.Outcome State Fault Refusal :=
  s.granting

/-- The forwarded upstream access completes: URDY rises (R25). -/
def execUpstreamAccessComplete (s : State) : Host.Outcome State Fault Refusal :=
  s.running (fun e => e.upstreamDone)

/-- The hold timer of the held write expires (R13). -/
def execHoldTimerExpiry (s : State) : Host.Outcome State Fault Refusal :=
  s.running (fun e => e.holdTimerExpiry)

/-- A catch-up read completes (R17). -/
def execCatchUpReadComplete (s : State) : Host.Outcome State Fault Refusal :=
  s.running (fun e => e.complete (· == .catchUp) (fun e c w => e.caughtUp c.addr w c.discard))

/-- A sweep read completes (R20). -/
def execSweepReadComplete (s : State) : Host.Outcome State Fault Refusal :=
  s.running (fun e => e.complete (· == .sweep) (fun e c w => e.swept c.addr w c.discard))

end Sys2Proof.Machine
end

