-- ==== Sys2Proof/Machine/SlotCommands.lean ====
section
/-! DEFINITION. Host writes that the opcode table gives rows of their own. Each is a write on the U-port: its address decides
where it falls (R2), and its owner answers (R6). -/

namespace Sys2Proof.Machine

/-- A host write to AXIS TARGET (R64). -/
def execTarget (addr : Addr) (value : Word) (s : State) : Host.Outcome State Fault Refusal :=
  s.event (fun e => e.hostWrite addr value)

/-- A host write of 0 to AXIS JOG (R64). -/
def execJogStop (addr : Addr) (s : State) : Host.Outcome State Fault Refusal :=
  s.event (fun e => e.hostWrite addr 0)

/-- A host write of 1 to AXIS JOG (R64). -/
def execJogUpForward (addr : Addr) (s : State) : Host.Outcome State Fault Refusal :=
  s.event (fun e => e.hostWrite addr 1)

/-- A host write of 2 to AXIS JOG (R64). -/
def execJogDownBack (addr : Addr) (s : State) : Host.Outcome State Fault Refusal :=
  s.event (fun e => e.hostWrite addr 2)

/-- A host write of 3 to AXIS JOG (R64). -/
def execHome (addr : Addr) (s : State) : Host.Outcome State Fault Refusal :=
  s.event (fun e => e.hostWrite addr 3)

/-- A host write to AXIS DUTY (R65). -/
def execDuty (addr : Addr) (value : Word) (s : State) : Host.Outcome State Fault Refusal :=
  s.event (fun e => e.hostWrite addr value)

/-- A host write to AXIS LIMIT_LO (R65). -/
def execLimitLo (addr : Addr) (value : Word) (s : State) : Host.Outcome State Fault Refusal :=
  s.event (fun e => e.hostWrite addr value)

/-- A host write to AXIS LIMIT_HI (R65). -/
def execLimitHi (addr : Addr) (value : Word) (s : State) : Host.Outcome State Fault Refusal :=
  s.event (fun e => e.hostWrite addr value)

/-- A host write to an AIR TARGET slot (R133). -/
def execChamberTarget (addr : Addr) (value : Word) (s : State) : Host.Outcome State Fault Refusal :=
  s.event (fun e => e.hostWrite addr value)

/-- A host write of 1 to 4 to SEAT RECALL (R107). -/
def execRecall (addr : Addr) (value : Word) (s : State) : Host.Outcome State Fault Refusal :=
  s.event (fun e => e.hostWrite addr value)

/-- A host write of 0 to SEAT RECALL (R107). -/
def execRecallCancel (addr : Addr) (s : State) : Host.Outcome State Fault Refusal :=
  s.event (fun e => e.hostWrite addr 0)

/-- A host write of 1 to 4 to SEAT STORE (R95, R107). -/
def execStore (addr : Addr) (value : Word) (s : State) : Host.Outcome State Fault Refusal :=
  s.event (fun e => e.hostWrite addr value)

/-- A host write of a pattern and an intensity to SEAT MASSAGE (R141). -/
def execMassageStart (addr : Addr) (pattern : Byte) (intensity : Byte) (s : State) : Host.Outcome State Fault Refusal :=
  s.event (fun e => e.hostWrite addr (bytes intensity.toNat pattern.toNat))

/-- A host write of pattern 0 to SEAT MASSAGE (R141). -/
def execMassageStop (addr : Addr) (intensity : Byte) (s : State) : Host.Outcome State Fault Refusal :=
  s.event (fun e => e.hostWrite addr (bytes intensity.toNat 0))

/-- A host write of 1 to SEAT PANEL_ENABLE (R121). -/
def execPanelEnable (addr : Addr) (s : State) : Host.Outcome State Fault Refusal :=
  s.event (fun e => e.hostWrite addr 1)

/-- A host write of 0 to SEAT PANEL_ENABLE (R121). -/
def execPanelDisable (addr : Addr) (s : State) : Host.Outcome State Fault Refusal :=
  s.event (fun e => e.hostWrite addr 0)

/-- A host write of 1 to SEAT CRASH_CLEAR (R178, R179). -/
def execCrashClear (addr : Addr) (s : State) : Host.Outcome State Fault Refusal :=
  s.event (fun e => e.hostWrite addr 1)

/-- A host write to a CLIMATE LEVEL slot (R157). -/
def execLevel (addr : Addr) (value : Word) (s : State) : Host.Outcome State Fault Refusal :=
  s.event (fun e => e.hostWrite addr value)

/-- A host write to JOURNAL READ_INDEX (R184). -/
def execReadIndex (addr : Addr) (value : Word) (s : State) : Host.Outcome State Fault Refusal :=
  s.event (fun e => e.hostWrite addr value)

/-- A host write to a word of the configuration block (R4, R37). -/
def execConfigWordWrite (addr : Addr) (value : Word) (s : State) : Host.Outcome State Fault Refusal :=
  s.event (fun e => e.hostWrite addr value)

/-- A host write to the check word of a profile record (R8, R94). -/
def execProfileCheckWordWrite (addr : Addr) (value : Word) (s : State) : Host.Outcome State Fault Refusal :=
  s.event (fun e => e.hostWrite addr value)

/-- A host write to the configuration check word (R4, R37). -/
def execConfigCheckWordWrite (value : Word) (s : State) : Host.Outcome State Fault Refusal :=
  s.event (fun e => e.hostWrite configCheck value)

end Sys2Proof.Machine
end

