-- ==== Sys2Proof/Machine/Dispatch.lean ====
section
/-! DEFINITION. The effect of a command on everything but the queue: one meaning per row of the opcode table. -/

namespace Sys2Proof.Machine

def exec (i : Instr) (s : State) : Host.Outcome State Fault Refusal :=
  match i with
  | .reset cause => Sys2Proof.Machine.execReset cause s
  | .resetEnd => Sys2Proof.Machine.execResetEnd s
  | .upstreamRead addr => Sys2Proof.Machine.execUpstreamRead addr s
  | .upstreamWrite addr value => Sys2Proof.Machine.execUpstreamWrite addr value s
  | .upstreamAccessComplete => Sys2Proof.Machine.execUpstreamAccessComplete s
  | .holdTimerExpiry => Sys2Proof.Machine.execHoldTimerExpiry s
  | .catchUpReadComplete => Sys2Proof.Machine.execCatchUpReadComplete s
  | .sweepReadComplete => Sys2Proof.Machine.execSweepReadComplete s
  | .dportGrant => Sys2Proof.Machine.execDportGrant s
  | .target addr value => Sys2Proof.Machine.execTarget addr value s
  | .jogStop addr => Sys2Proof.Machine.execJogStop addr s
  | .jogUpForward addr => Sys2Proof.Machine.execJogUpForward addr s
  | .jogDownBack addr => Sys2Proof.Machine.execJogDownBack addr s
  | .home addr => Sys2Proof.Machine.execHome addr s
  | .duty addr value => Sys2Proof.Machine.execDuty addr value s
  | .limitLo addr value => Sys2Proof.Machine.execLimitLo addr value s
  | .limitHi addr value => Sys2Proof.Machine.execLimitHi addr value s
  | .chamberTarget addr value => Sys2Proof.Machine.execChamberTarget addr value s
  | .recall addr value => Sys2Proof.Machine.execRecall addr value s
  | .recallCancel addr => Sys2Proof.Machine.execRecallCancel addr s
  | .store addr value => Sys2Proof.Machine.execStore addr value s
  | .massageStart addr pattern intensity => Sys2Proof.Machine.execMassageStart addr pattern intensity s
  | .massageStop addr intensity => Sys2Proof.Machine.execMassageStop addr intensity s
  | .panelEnable addr => Sys2Proof.Machine.execPanelEnable addr s
  | .panelDisable addr => Sys2Proof.Machine.execPanelDisable addr s
  | .crashClear addr => Sys2Proof.Machine.execCrashClear addr s
  | .level addr value => Sys2Proof.Machine.execLevel addr value s
  | .readIndex addr value => Sys2Proof.Machine.execReadIndex addr value s
  | .configCheckWordWrite value => Sys2Proof.Machine.execConfigCheckWordWrite value s
  | .configWordWrite addr value => Sys2Proof.Machine.execConfigWordWrite addr value s
  | .profileCheckWordWrite addr value => Sys2Proof.Machine.execProfileCheckWordWrite addr value s
  | .validationReadComplete => Sys2Proof.Machine.execValidationReadComplete s
  | .startUpReadComplete => Sys2Proof.Machine.execStartUpReadComplete s
  | .neutralWriteComplete => Sys2Proof.Machine.execNeutralWriteComplete s
  | .markerWriteComplete => Sys2Proof.Machine.execMarkerWriteComplete s
  | .parkingWriteComplete => Sys2Proof.Machine.execParkingWriteComplete s
  | .hallEdge axis dt => Sys2Proof.Machine.execHallEdge axis dt s
  | .motorCurrentSample axis sample => Sys2Proof.Machine.execMotorCurrentSample axis sample s
  | .startBlankingEnd axis => Sys2Proof.Machine.execStartBlankingEnd axis s
  | .hallPeriodTimeout axis => Sys2Proof.Machine.execHallPeriodTimeout axis s
  | .stallTimerExpiry axis => Sys2Proof.Machine.execStallTimerExpiry axis s
  | .reversalDeadTimeEnd axis => Sys2Proof.Machine.execReversalDeadTimeEnd axis s
  | .coastWindowEnd axis => Sys2Proof.Machine.execCoastWindowEnd axis s
  | .crashDeadTimeEnd axis => Sys2Proof.Machine.execCrashDeadTimeEnd axis s
  | .restoreTimeReached axis => Sys2Proof.Machine.execRestoreTimeReached axis s
  | .thermalRiseTick axis => Sys2Proof.Machine.execThermalRiseTick axis s
  | .thermalFallTick axis => Sys2Proof.Machine.execThermalFallTick axis s
  | .supplySample sample => Sys2Proof.Machine.execSupplySample sample s
  | .waitLimitExpiry claimant => Sys2Proof.Machine.execWaitLimitExpiry claimant s
  | .profileCheckReadComplete => Sys2Proof.Machine.execProfileCheckReadComplete s
  | .storeWriteComplete => Sys2Proof.Machine.execStoreWriteComplete s
  | .recallReadComplete => Sys2Proof.Machine.execRecallReadComplete s
  | .slotNeutralWriteComplete => Sys2Proof.Machine.execSlotNeutralWriteComplete s
  | .lineSample closed => Sys2Proof.Machine.execLineSample closed s
  | .keyHoldTimerExpiry key => Sys2Proof.Machine.execKeyHoldTimerExpiry key s
  | .storeWindowExpiry => Sys2Proof.Machine.execStoreWindowExpiry s
  | .pressureSample chamber sample => Sys2Proof.Machine.execPressureSample chamber sample s
  | .pumpCurrentSample sample => Sys2Proof.Machine.execPumpCurrentSample sample s
  | .patternFetchReadComplete => Sys2Proof.Machine.execPatternFetchReadComplete s
  | .massagePhaseTimerExpiry => Sys2Proof.Machine.execMassagePhaseTimerExpiry s
  | .massageSessionExpiry => Sys2Proof.Machine.execMassageSessionExpiry s
  | .massageMirrorWriteComplete => Sys2Proof.Machine.execMassageMirrorWriteComplete s
  | .climateArrival zone data => Sys2Proof.Machine.execClimateArrival zone data s
  | .stepDownExpiry zone => Sys2Proof.Machine.execStepDownExpiry zone s
  | .levelMirrorWriteComplete => Sys2Proof.Machine.execLevelMirrorWriteComplete s
  | .linkReady => Sys2Proof.Machine.execLinkReady s
  | .arm => Sys2Proof.Machine.execArm s
  | .pull severity => Sys2Proof.Machine.execPull severity s
  | .release => Sys2Proof.Machine.execRelease s
  | .impact => Sys2Proof.Machine.execImpact s
  | .query bitTime => Sys2Proof.Machine.execQuery bitTime s
  | .linkReceiveError kind detail => Sys2Proof.Machine.execLinkReceiveError kind detail s
  | .idleTimeout => Sys2Proof.Machine.execIdleTimeout s
  | .turnaroundEnd => Sys2Proof.Machine.execTurnaroundEnd s
  | .replyCancel => Sys2Proof.Machine.execReplyCancel s
  | .replyAbandon => Sys2Proof.Machine.execReplyAbandon s
  | .replyEnd => Sys2Proof.Machine.execReplyEnd s
  | .armHoldTimerExpiry => Sys2Proof.Machine.execArmHoldTimerExpiry s
  | .pullTimerExpiry => Sys2Proof.Machine.execPullTimerExpiry s
  | .crashHoldTimerExpiry => Sys2Proof.Machine.execCrashHoldTimerExpiry s
  | .journalInitWriteComplete => Sys2Proof.Machine.execJournalInitWriteComplete s
  | .appendWriteComplete => Sys2Proof.Machine.execAppendWriteComplete s
  | .headerRefreshWriteComplete => Sys2Proof.Machine.execHeaderRefreshWriteComplete s
  | .recountReadComplete => Sys2Proof.Machine.execRecountReadComplete s
  | .syncFieldStart dt => Sys2Proof.Machine.execSyncFieldStart dt s
  | .slinkEdge dt rising => Sys2Proof.Machine.execSlinkEdge dt rising s
  | .fieldReceived byte => Sys2Proof.Machine.execFieldReceived byte s

end Sys2Proof.Machine
end

