-- ==== Sys2Proof/Safety.lean ====
section
/-! DEFINITION. What the claims about the part speak of: canonical memory, bounded queues, a part at work, a host
write that reaches the owner of a slot, and states in which an event ends with its own effect. -/

namespace Sys2Proof.Machine

/-- Image memory is in its canonical form. -/
abbrev State.canonical (s : State) : Prop := Memory.wf s.mem = true

/-- The catch-up list is within its places and names no address twice (R16). -/
abbrev Path.listGood (p : Path) : Prop := p.list.length ≤ listSize ∧ (p.list.map (·.addr)).Nodup

/-- The catch-up list is within its places and names no address twice (R16), the insert queue and the staging queue are
within their places (R23, R181), and the waiting queue names no claimant twice (R77). -/
abbrev State.queuesSound (s : State) : Prop :=
  s.path.listGood ∧ s.ins.queue.length ≤ queueSize ∧ s.journal.staging.length ≤ 8 ∧ s.budget.queue.Nodup

/-- A count is at a position or beyond it in a direction (R51). -/
abbrev countPast (d : Dir) (p n : Nat) : Prop := (d = .upForward ∧ p ≤ n) ∨ (d = .downBack ∧ n ≤ p)

/-- The soft limit of an axis in a direction (R57). -/
abbrev Axis.softLimit (a : Axis) (d : Dir) : Nat := if d = .upForward then a.limitHi else a.limitLo

/-- The keys of the sampled line other than `k` do not change at a sample: each is seen as it is, or its run stays below the
debounce count (R111). -/
abbrev State.lineSteady (s : State) (closed : BitVec 6) (k : Option (Fin 30)) : Prop :=
  ∀ (j : Fin 6) (x : Fin 30), x.val = 6 * s.panel.line.val + j.val → some x ≠ k →
    closed.getLsbD j.val = s.panel.keys[x].down ∨ s.panel.keys[x].run + 1 < s.conf.debounce

/-- One key of the sampled line, seen otherwise than it is, changes at a sample, and no other does (R111). -/
abbrev State.keyChanging (s : State) (closed : BitVec 6) (k : Fin 30) : Prop :=
  k.val / 6 = s.panel.line.val ∧ closed.getLsbD (k.val % 6) ≠ s.panel.keys[k].down ∧
    s.conf.debounce ≤ s.panel.keys[k].run + 1 ∧ s.lineSteady closed (some k)

/-- A line has been sampled: the next one is active from the end of the dwell on, the keys of the line but `k` have their
new runs, and `k` has changed with its run at 0; a new scan takes the scan dwell in force (R110, R111). -/
abbrev State.lineSampled (t s : State) (closed : BitVec 6) (k : Option (Fin 30)) : Prop :=
  t.panel.line.val = (s.panel.line.val + 1) % 5 ∧
  t.now = max s.now (s.panel.lineSince + 1000 * s.panel.dwell) ∧ t.panel.lineSince = t.now ∧
  t.panel.dwell = (if t.panel.line.val = 0 then s.conf.scanDwell else s.panel.dwell) ∧
  (∀ (j : Fin 6) (x : Fin 30), x.val = 6 * s.panel.line.val + j.val → some x ≠ k →
    t.panel.keys[x].down = s.panel.keys[x].down ∧
    t.panel.keys[x].run = (if closed.getLsbD j.val = s.panel.keys[x].down then 0 else s.panel.keys[x].run + 1)) ∧
  (∀ x : Fin 30, k = some x → t.panel.keys[x] = ⟨!s.panel.keys[x].down, 0⟩) ∧
  (∀ x : Fin 30, x.val / 6 ≠ s.panel.line.val → t.panel.keys[x] = s.panel.keys[x])

/-- The panel with the scan of `t` and nothing else of it. -/
abbrev State.scannedAs (s t : State) : Panel :=
  { s.panel with keys := t.panel.keys, line := t.panel.line, lineSince := t.panel.lineSince, dwell := t.panel.dwell }

/-- The panel is NORMAL and stands so (R114). -/
abbrev State.panelNormal (s : State) : Prop :=
  s.panel.shown = .normal ∧ s.panelState = .normal ∧ s.panel.ambiguous = false

/-- The record of an axis is one that a run can reach: the drive is on only in RUNNING and REVERSING, and both hold the
grant (R51); a goal is in force only there and in STARTING; a dead time runs only in REVERSING and, under a grant, in
STARTING; a coast window only in STOPPING; an axis out of IDLE and BLOCKED has a mover. -/
abbrev Axis.sound (a : Axis) : Prop :=
  (a.drive ≠ none → a.state = .running ∨ a.state = .reversing) ∧
  (a.state = .running ∨ a.state = .reversing → a.grant = .held) ∧
  (a.goal ≠ none → a.state = .starting ∨ a.state = .running ∨ a.state = .reversing) ∧
  (a.deadAt ≠ none → (a.state = .starting ∨ a.state = .reversing) ∧ a.grant = .held) ∧
  (a.coastAt ≠ none → a.state = .stopping) ∧
  (a.state ≠ .idle → a.state ≠ .blocked → a.mover ≠ none)

/-- Every axis drives only as R51 allows. -/
abbrev State.drivesSound (s : State) : Prop := ∀ i : Fin 8, s.axes[i].sound

/-- A write is held (R11). -/
def UPort.isHeld : UPort → Bool
  | .held _ _ _ _ => true
  | .idle | .kept _ | .waiting _ | .onPort _ _ => false

/-- The part works under a configuration and no reset is asserted. -/
abbrev State.atWork (s : State) : Prop := s.inReset = false ∧ s.working = true

/-- A host write to address `a` reaches the owner of the CONTROL slot `c`: the part is at work, no access is in
progress, and the questions of R2 lead to the slot. -/
abbrev State.reaches (s : State) (a : Addr) (c : CSlot) : Prop :=
  s.atWork ∧ s.uport = .idle ∧ s.controlAt a = some c ∧ (s.crashGuard && (s.placeOf a).crashCovered) = false ∧
    s.storeGuard a = false

/-- A cycle of a purpose is on the D-port, its value wanted. -/
abbrev State.onDport (s : State) (c : Cycle) (w : Word) : Prop :=
  s.ins.port = .inserted c w ∧ c.discard = false

/-- The recall in progress goes no further now: a leg of its rank is unfinished, or an abort waits for its legs
or for a read. -/
def State.recallWaits (s : State) : Bool :=
  match s.engine.plan.state with
  | .running k => s.engine.plan.legs.any (fun l => l.rank == k && l.phase != .finished)
  | .aborting => s.engine.plan.reading || s.engine.plan.legs.any (fun l => l.phase != .finished)
  | .idle | .reading | .done => true

/-- A block that is told this has nothing to do, but for the journal writer. -/
def State.noEffect (s : State) : Sig → Bool
  | .journal => true
  | .axisEnd _ m _ _ _ _ | .axisParked _ m => m == .image || m == .panel
  | .recallStep => s.recallWaits
  | .queuedRecall => s.engine.plan.queued.isNone
  | .crashStep => s.crash.state != .pulling && s.crash.state != .restoring
  | .panel => s.panel.shown == s.panelState
  | .massageStep => s.air.massage.state != .ending
  | .riseEnd => s.air.massage.state != .running
  | .massageMirror => s.air.massage.mirrorNow.isSome || s.air.massage.mirrorKnown == s.mirrorValue
  | .pump => s.air.claim.isNone && s.pumpWanted.isNone && !s.air.granted && s.air.overload == 0
  | .profileCheck => s.engine.check.isSome || !allProfiles.any (fun n => s.engine.profiles[n].mark == .pending)
  | .told _ _ | .zoneEnd _ => false

/-- The two states agree but for the path decoder's lists, the insert queue and the journal writer, which move on
with the traffic of every event. -/
abbrev State.agrees (t s : State) : Prop := t = { s with path := t.path, ins := t.ins, journal := t.journal }

/-- As `agrees`, after a host write that its owner has taken or refused: a neutral write of the configuration unit to
the same slot may have been cancelled (R40). -/
abbrev State.agreesButNeutrals (t s : State) : Prop :=
  t.agrees { s with cfg := { s.cfg with neutralLeft := t.cfg.neutralLeft, neutralNow := t.cfg.neutralNow } } ∧
    List.Sublist t.cfg.neutralLeft s.cfg.neutralLeft

/-- A configuration is in force, and the journal writer has room for one more REFUSAL entry and does not lose it at once
to a full ring (R180 to R182). -/
abbrev State.stagesRefusal (s : State) : Prop :=
  s.cfg.inForce.isSome = true ∧ s.journal.staging.length < 8 ∧
    (s.journal.ring = .ready → s.journal.work = none → s.journal.staging = [] ∧ s.journal.unread < unreadLimit .refusal)

/-- A REFUSAL entry of a code for a host write has joined what the journal writer had staged (R10). -/
abbrev State.refusalStaged (t s : State) (code : EntryCode) (a : Addr) (v : Word) : Prop :=
  t.journal.staging = s.journal.staging ++ [⟨s.stamp, code, a.extractLsb' 16 2, a.extractLsb' 0 16, v⟩]

/-- The cycle is in the insert queue, or waits for a place in it. -/
abbrev State.offered (s : State) (c : Cycle) : Prop := c ∈ s.ins.pending

/-- The part releases bit `k` of its reply, counted from 0: a stop bit, or a data bit of 1, least significant first (R161). -/
abbrev releasedBit (reply : List Byte) (k : Nat) : Prop :=
  k % 10 = 9 ∨ (k % 10 ≠ 0 ∧ (reply.getD (k / 10) 0).getLsbD (k % 10 - 1) = true)

/-- An inserted read as it is offered. -/
abbrev readCycle (p : Purpose) (a : Addr) : Cycle := ⟨p, false, a, 0, false, false⟩

/-- An inserted write as it is offered. -/
abbrev writeCycle (p : Purpose) (a : Addr) (v : Word) (urgent : Bool) : Cycle := ⟨p, true, a, v, urgent, false⟩

/-- Only the record of one axis differs. -/
abbrev State.onlyAxis (t s : State) (i : Fin 8) : Prop := ∀ j : Fin 8, j ≠ i → t.axes[j] = s.axes[j]

/-- A claim of `n` units that nothing stands before fits at once (R79). -/
abbrev State.claimFits (s : State) (c : Fin 15) : Prop :=
  s.budget.table[c].state = .none ∧ s.budget.queue = [] ∧ s.budget.crashHold = false ∧
    s.budget.grantedTotal + s.budget.table[c].units ≤ s.budget.grantable

/-- No chamber needs the pump, and the pump is off and not claimed. -/
abbrev State.pumpAtRest (s : State) : Prop :=
  s.air.claim = none ∧ s.air.granted = false ∧ s.air.overload = 0 ∧ s.pumpWanted = none

/-- Nothing moves and nothing is claimed: every axis idle, every claim NONE, no recall, no key down, the chambers
sealed and the pump and the massage off. -/
abbrev State.atRest (s : State) : Prop :=
  (∀ i : Fin 8, s.axes[i].state = .idle ∧ s.axes[i].pending = none ∧ s.axes[i].mover = none ∧
    s.axes[i].grant = .none ∧ s.axes[i].owed = none) ∧
  (∀ c : Fin 15, s.budget.table[c].state = .none) ∧ s.budget.queue = [] ∧
  s.recallAbortable = false ∧ s.engine.plan.legs = [] ∧ s.panel.members = [] ∧
  (∀ c : Fin 12, s.air.chambers[c].state = .sealed ∧ s.air.chambers[c].owner ≠ .massage ∧
    s.air.chambers[c].owner ≠ .crash ∧ s.air.chambers[c].settlePending = false) ∧
  s.pumpAtRest ∧ s.air.massage.state = .off

/-- A move toward a goal has been set off for the host: STARTING, its claim granted, its write forwarded; nothing
else differs but the claim of the axis. -/
abbrev State.imageStarted (t s : State) (i : Fin 8) (a : Addr) (v : Word) (g : Goal) : Prop :=
  t.axes = s.axes.set i { s.axes[i] with
    state := .starting, goal := some g, owed := some g, mover := some .image, grant := .held, idleEdge := false,
    markerDone := false, energised := 0, current := none, overheated := false, crashInBlocked := false } ∧
  t.budget.table[axisClaimant i].state = .granted ∧ t.budget.table[axisClaimant i].priority = some .motion ∧
  (∀ c : Fin 15, c ≠ axisClaimant i → t.budget.table[c] = s.budget.table[c]) ∧
  t.agreesButNeutrals { s with uport := .waiting (.write a v .none), axes := t.axes, budget := t.budget }

/-- The drive of an axis is on toward a goal, energised at a time (R50, R51). -/
abbrev State.drivesToward (t s : State) (i : Fin 8) (g : Goal) (since : Nat) : Prop :=
  t.axes[i].state = .running ∧ t.axes[i].drive = some (g.dir s.axes[i]) ∧ t.axes[i].lastDir = g.dir s.axes[i] ∧
  t.axes[i].driveDuty = g.duty s.axes[i] ∧ t.axes[i].goal = some g ∧ t.axes[i].energised = 0 ∧
  t.axes[i].driveSince = since ∧ t.axes[i].stallAt = some (since + 1000 * (s.axisConf i).stallWindow) ∧
  t.axes[i].blankAt = some (since + 150000) ∧ t.axes[i].hallBase = none ∧ t.axes[i].currentBase = none ∧
  t.axes[i].count = s.axes[i].count ∧ t.axes[i].thermal = s.axes[i].thermal ∧ t.onlyAxis s i

/-- A move of an axis has ended: drive off, its claim and grant gone, STOPPING for 30 ms (R55). -/
abbrev State.stopped (t s : State) (i : Fin 8) (cause : StopCause) (since : Nat) : Prop :=
  t.axes[i].state = .stopping ∧ t.axes[i].drive = none ∧ t.axes[i].goal = none ∧ t.axes[i].grant = .none ∧
  t.axes[i].lastCause = some cause ∧ t.axes[i].coastAt = some (since + 30000) ∧
  t.budget.table[axisClaimant i].state = .none ∧
  (∀ c : Fin 15, c ≠ axisClaimant i → t.budget.table[c] = s.budget.table[c]) ∧ t.onlyAxis s i

/-- A pinch has been detected on an axis: drive off, the grant kept, REVERSING with 20 ms of dead time (R54). -/
abbrev State.reverses (t s : State) (i : Fin 8) (since : Nat) : Prop :=
  t.axes[i].state = .reversing ∧ t.axes[i].drive = none ∧ t.axes[i].goal = none ∧
  t.axes[i].deadAt = some (since + 20000) ∧ t.axes[i].hallBase = none ∧ t.axes[i].currentBase = none ∧
  t.axes[i].grant = s.axes[i].grant ∧ t.axes[i].count = s.axes[i].count ∧ t.onlyAxis s i

/-- A goal of the host or the panel is in force on an axis, with nothing pending and its grant held, and no claim
waits. -/
abbrev State.movesAlone (s : State) (i : Fin 8) (g : Goal) : Prop :=
  s.axes[i].goal = some g ∧ s.axes[i].owed = some g ∧
  (s.axes[i].mover = some .image ∨ s.axes[i].mover = some .panel) ∧ s.axes[i].pending = none ∧
  s.axes[i].grant = .held ∧ s.budget.queue = []

end Sys2Proof.Machine
end

