-- ==== Sys2Proof/Certificates/Slice0/Obligations.lean ====
section
/-! DEFINITION. The statements about the part. `t.agrees u` says that `t` is `u` but for the path decoder's lists, the
insert queue and the journal writer, which move on with the traffic of every event: it is the frame of a command
and its result in one. -/

open Sys2Proof Sys2Proof.Machine

/-! ## The queue of commands, and image memory -/

/-- A step runs the command at the front of the queue on the queue's rest; on an empty queue one microsecond
passes (the model's choice, log entry 1). -/
def Obligations.StepRunsTheFrontCommand : Prop :=
  (∀ (s : State) (c : Instr) (rest : List Instr), s.pending = c :: rest →
    step s = exec c { s with pending := rest }) ∧
  (∀ s : State, s.pending = [] → step s = .next { s with now := s.now + 1 })

/-- Every command answers a next state in every state, and leaves the queue of commands alone. That it does so where its
event cannot occur is the model's choice (log entry 2); what each command does there and elsewhere, other statements say. -/
def Obligations.EveryCommandCompletes : Prop :=
  ∀ (c : Instr) (s : State), ∃ t, exec c s = .next t ∧ t.pending = s.pending

/-- Every step keeps image memory in its canonical form. -/
def Obligations.StepKeepsMemoryCanonical : Prop :=
  ∀ s t : State, s.canonical → step s = .next t → t.canonical

/-- Image memory is canonical after reset. -/
def Obligations.ResetMemoryCanonical : Prop := State.reset.canonical

/-- Image memory changes at a grant alone: every other command leaves every word (R25). -/
def Obligations.MemoryChangesOnlyAtGrants : Prop :=
  ∀ (c : Instr) (s t : State), c ≠ .dportGrant → exec c s = .next t → t.mem = s.mem

/-! ## Reset -/

/-- RESET: the part takes its reset state, table by table: the path (section 1.6), the configuration unit, the axis records,
the budget, the profile table and recall record, the panel, the chambers and massage, the zones, the link receiver, the
crash controller and the journal writer (R27, R45, R76, R92, R98, R99, R107, R110 to R114, R117, R118, R121, R123, R126,
R127, R136, R147, R162, R167, R180), with every output off (R33); image memory keeps every write granted before (R25, R27).
Of the soft limits, which R45 gives only once a configuration is in force, nothing is said. An empty bit time and field
count of the link stand as 0 (log entry 19). That the U-port is idle after an access that waited or was on the D-port is the
model's choice (log entry 8: the access is given up). -/
def Obligations.ResetLeavesResetState : Prop :=
  ∀ (cause : ResetCause) (s : State), ∃ t, exec (.reset cause) s = .next t ∧
    t.inReset = true ∧ t.mem = s.mem ∧ t.pending = s.pending ∧
    t.uport = .idle ∧ t.urdy = false ∧ t.path.list = [] ∧ t.path.resync = false ∧ t.path.sweep = none ∧
    t.path.rerun = false ∧ t.path.table = WindowTable.empty ∧
    t.path.holdLimit = 20 ∧ t.ins.queue = [] ∧ t.ins.waiting = [] ∧ t.ins.port = .free ∧ t.ins.passOver = 0 ∧
    t.cfg.state = .loading ∧ t.cfg.origin = none ∧ t.cfg.inForce = none ∧ t.cfg.candidate = [] ∧
    t.cfg.spoil = .clear ∧ t.cfg.restart = false ∧ t.cfg.lastReason = .none ∧ t.cfg.lastSubject = none ∧
    t.cfg.cause = cause ∧
    (∀ i : Fin 8, t.axes[i].state = .idle ∧ t.axes[i].referenced = false ∧ t.axes[i].count = 0 ∧
      t.axes[i].goal = none ∧ t.axes[i].mover = none ∧ t.axes[i].pending = none ∧ t.axes[i].duty = 60 ∧
      t.axes[i].grant = .none ∧ t.axes[i].thermal = 0 ∧ t.axes[i].lastCause = none ∧
      t.axes[i].lastDir = .upForward ∧ t.axes[i].hallBase = none ∧ t.axes[i].currentBase = none ∧
      t.axes[i].energised = 0 ∧ t.axes[i].idleEdge = false ∧ t.axes[i].drive = none) ∧
    (∀ c : Fin 12, t.valves c = (false, false)) ∧ t.pumpOn = false ∧ (∀ z : Fin 6, t.zoneDuty z = 0) ∧
    t.crash.state = .notReady ∧ t.crash.armAt = none ∧ t.crash.pullAt = none ∧ t.crash.holdAt = none ∧
    (∀ i : Fin 8, t.crash.snapAxes[i] = none) ∧ (∀ c : Fin 12, t.crash.snapChambers[c] = none) ∧
    t.crash.kind = .none ∧ t.crash.legs = [] ∧ t.crash.drops = 0 ∧
    t.link.state = .waitSync ∧ t.link.ready = false ∧ t.link.reported = [] ∧ t.link.bitTime = 0 ∧ t.link.edges = [] ∧
    t.link.command = none ∧ t.link.data = none ∧ t.link.received = 0 ∧ t.slinkLow = false ∧
    t.journal.ring = .noRing ∧ t.journal.write = 0 ∧ t.journal.read = 0 ∧ t.journal.overrun = false ∧
    t.journal.overrunMark = false ∧ t.journal.unread = 0 ∧ (∀ p : Fin 64, t.journal.classes[p] = none) ∧
    (∀ c : Fin 7, t.journal.counts[c] = 0) ∧ t.journal.recount = [] ∧ t.journal.staging = [] ∧
    t.journal.work = none ∧ t.journal.refresh = false ∧ t.attn = false ∧
    (∀ c : Fin 15, t.budget.table[c] =
      { state := .none, units := 0, priority := none, wait := .unlimited, since := none, seq := 0 }) ∧
    t.budget.queue = [] ∧ t.budget.grantedTotal = 0 ∧ t.budget.motorTotal = 0 ∧ t.budget.effective = 0 ∧
    t.budget.reservation = 0 ∧ t.budget.crashHold = false ∧ t.budget.sagCount = 0 ∧ t.budget.recoveryCount = 0 ∧
    (∀ n : Fin 4, t.engine.profiles[n].state = .empty ∧ t.engine.profiles[n].count = 0 ∧
      t.engine.profiles[n].mark = .none) ∧
    t.engine.plan = { state := .idle, profile := none, origin := none, copy := [], reading := false, legs := [],
                      result := .none, cause := none, queued := none } ∧
    t.engine.store = none ∧ t.engine.recallMark = none ∧ t.engine.storeMark = none ∧
    (∀ k : Fin 30, t.panel.keys[k].down = false ∧ t.panel.keys[k].run = 0) ∧ t.panel.members = [] ∧ t.downCount = 0 ∧
    t.panel.ambiguous = false ∧ t.panel.enabled = true ∧ t.panelState = .disabled ∧ t.panel.shown = .disabled ∧
    t.panel.line = 0 ∧ t.panel.storeWindow = none ∧ (∀ i : Fin 8, t.panel.conflict[i] = false) ∧
    (∀ c : Fin 12, t.air.chambers[c] =
      { state := .sealed, owner := .none, posture := none, target := none, fillOnly := false, borrowed := false,
        returning := false, settlePending := false, protective := false, refills := [], fillTime := 0, fault := .none,
        slotRequest := false, sample := none, faultVent := false, lowered := false }) ∧
    t.air.claim = none ∧ t.air.overload = 0 ∧ t.air.massage.state = .off ∧ t.air.massage.pattern = none ∧
    t.air.massage.intensity = 3 ∧ t.air.massage.step = 0 ∧
    t.air.massage.phase = none ∧ t.air.massage.phaseAt = none ∧ t.air.massage.passes = 0 ∧
    t.air.massage.sessionAt = none ∧ t.air.massage.pendingStart = none ∧ t.air.massage.lastPattern.val + 1 = 1 ∧
    t.air.massage.lastIntensity = 3 ∧ t.mirrorValue = 0 ∧
    (∀ z : Fin 6, t.zones[z].level = 0 ∧ t.zones[z].state = .off ∧ t.zones[z].temperature = none ∧
      t.zones[z].period = none ∧ t.zones[z].fault = none ∧ (∀ k : Fin 5, t.zones[z].confirm[k] = 0) ∧
      t.zones[z].present = 0 ∧ t.zones[z].ack = none ∧ t.zones[z].stepSince = none ∧ t.zones[z].onThrough = false ∧
      t.zones[z].partnerOn = false ∧ t.zones[z].spinUp = 0 ∧ t.zones[z].mirrorNow = none)

/-- RESET_END: the part is LOADING and the first validation starts, its first read of 0x3FF00 queued (R29, R33). -/
def Obligations.ResetEndStartsValidation : Prop :=
  ∀ (cause : ResetCause) (mem : List (Nat × Word)) (pending : List Instr) (n : Nat),
    ∃ t, exec .resetEnd (State.afterReset cause mem pending n) = .next t ∧
      t.inReset = false ∧ t.now = 0 ∧ t.cfg.state = .loading ∧ t.cfg.origin = none ∧ t.cfg.cause = cause ∧
      t.ins.queue = [⟨.validation, false, 0x3FF00, 0, false, false⟩] ∧ t.mem = mem

/-! ## Host accesses -/

/-- UPSTREAM_READ. On a part at work, a STATUS slot of a fitted unit is answered by its owner, a slot of an unfitted unit
with the absent value, and every other read is forwarded (R5, R9). In FALLBACK, CONFIG_STATE is answered and every other read
is forwarded (R3). In LOADING and while a reset is asserted the read is kept, URDY low (R15). The STATUS slots of an axis
(R68, section 11.3): the count or the absent value; state, mover, goal kind, referenced flag and pending request by
their codes; the last stop cause by its code, NONE after reset; the thermal count. -/
def Obligations.HostReadsServed : Prop :=
  (∀ (s : State) (a : Addr), s.atWork → s.uport = .idle →
    (∀ r k u, s.placeOf a = .slot r k u → s.unitFitted u = false →
      ∃ t, exec (.upstreamRead a) s = .next t ∧ t.agrees { s with lastRead := some 0xFFFF }) ∧
    (∀ r q u, s.placeOf a = .slot r (.status q) u → s.unitFitted u = true →
      ∃ t, exec (.upstreamRead a) s = .next t ∧ t.agrees { s with lastRead := some (s.statusWord q) }) ∧
    ((s.placeOf a = .config ∨ s.placeOf a = .outside ∨
        ∃ r k u, s.placeOf a = .slot r k u ∧ s.unitFitted u = true ∧ ∀ q, k ≠ .status q) →
      ∃ t, exec (.upstreamRead a) s = .next t ∧ t.agrees { s with uport := .waiting (.read a) })) ∧
  (∀ (s : State) (a : Addr), s.inReset = false → s.uport = .idle → s.fellBack = true →
    (∀ u, s.placeOf a = .slot .seat (.status .configState) u →
      ∃ t, exec (.upstreamRead a) s = .next t ∧ t.agrees { s with lastRead := some s.cfg.stateWord }) ∧
    ((∀ u, s.placeOf a ≠ .slot .seat (.status .configState) u) →
      ∃ t, exec (.upstreamRead a) s = .next t ∧ t.agrees { s with uport := .waiting (.read a) })) ∧
  (∀ (s : State) (a : Addr), s.uport = .idle → s.inReset = true ∨ s.cfg.state = .loading →
    ∃ t, exec (.upstreamRead a) s = .next t ∧ t.urdy = false ∧ t.agrees { s with uport := .kept (.read a) }) ∧
  ([AxisState.idle, .starting, .running, .stopping, .parking, .reversing, .blocked].map axisStateCode =
      [0, 1, 2, 3, 4, 5, 6] ∧
    [none, some Mover.crash, some .restore, some .panel, some .recall, some .image].map moverCode =
      [0, 1, 2, 3, 4, 5] ∧
    (∀ (n : Nat) (d : Dir), [none, some (Goal.target n), some (.jog d), some .home, some (.crashTo n),
      some (.crashTime d), some (.backOff n), some (.restoreTo n), some (.restoreTime n d)].map goalCode =
        [0, 1, 2, 3, 4, 4, 5, 6, 6]) ∧
    [none, some StopCause.reached, some .stopRequest, some .limit, some .stall, some .endStop, some .pinch,
      some .hallFault, some .preempted, some .armed, some .config, some .noPower, some .supplyLow, some .thermal,
      some .crashTime, some .locked].map causeCode = [0, 1, 2, 3, 4, 5, 6, 7, 8, 9, 10, 11, 12, 13, 14, 15] ∧
    (∀ (k : ResetCause) (m : List (Nat × Word)) (l : List Instr) (n : Nat) (i : Fin 8),
      (State.afterReset k m l n).statusWord (.axisCause i) = 0) ∧
    ∀ (s : State) (i : Fin 8),
      (s.axes[i].referenced = true → (s.statusWord (.position i)).toNat = s.axes[i].count % 65536) ∧
      (s.axes[i].referenced = false → s.statusWord (.position i) = 0xFFFF) ∧
      field (s.statusWord (.axisState i)) 0 4 = axisStateCode s.axes[i].state ∧
      field (s.statusWord (.axisState i)) 4 4 = moverCode s.axes[i].mover ∧
      field (s.statusWord (.axisState i)) 8 4 = goalCode s.axes[i].goal ∧
      (field (s.statusWord (.axisState i)) 12 1 = 1 ↔ s.axes[i].referenced = true) ∧
      (field (s.statusWord (.axisState i)) 13 1 = 1 ↔ s.axes[i].pending.isSome = true) ∧
      (s.statusWord (.axisCause i)).toNat = causeCode s.axes[i].lastCause ∧
      (s.statusWord (.axisThermal i)).toNat = min s.axes[i].thermal 65534)

/-- UPSTREAM_WRITE. On a part at work, no guard covering the word: a write to a FREE slot of a fitted unit or of none, or
outside every window, is forwarded, one to a RECORD slot with its report; one to a STATUS or OWNED slot, or to a slot of
an unfitted unit, is dropped with its REFUSAL entry, WRITE_STATUS, WRITE_OWNED or UNFITTED; one that its owner refuses
completes with REFUSED_VALUE (R6 to R10). In FALLBACK a write outside the configuration block is forwarded (R3). In LOADING
and while a reset is asserted the write is kept, URDY low (R15). The entry is staged where the writer has room for it
(R181). -/
def Obligations.PlainWritesForwardedOrDropped : Prop :=
  (∀ (s : State) (a : Addr) (v : Word), s.atWork → s.uport = .idle →
    (s.crashGuard && (s.placeOf a).crashCovered) = false → s.storeGuard a = false →
    (s.placeOf a = .outside ∨ (∃ r u, s.placeOf a = .slot r .free u ∧ s.unitFitted u = true) →
      ∃ t, exec (.upstreamWrite a v) s = .next t ∧ t.agrees { s with uport := .waiting (.write a v .none) }) ∧
    ((∃ r k u, s.placeOf a = .slot r k u ∧ (s.unitFitted u = false ∨ k = .owned ∨ ∃ q, k = .status q)) →
      ∃ t, exec (.upstreamWrite a v) s = .next t ∧ t.agrees s) ∧
    (∀ r g u, s.placeOf a = .slot r (.record g) u → s.unitFitted u = true →
      ∃ t, exec (.upstreamWrite a v) s = .next t ∧ t.agrees { s with uport := .waiting (.write a v g) }) ∧
    (∀ r k u x, s.placeOf a = .slot r k u → s.stagesRefusal →
      (s.unitFitted u = false ∧ x = .unfitted) ∨
        (s.unitFitted u = true ∧ ((k = .owned ∧ x = .writeOwned) ∨ ((∃ q, k = .status q) ∧ x = .writeStatus))) →
      ∃ t, exec (.upstreamWrite a v) s = .next t ∧ t.refusalStaged s x a v)) ∧
  (∀ (s : State) (a : Addr) (v : Word) (c : CSlot), s.reaches a c → s.answer c v = .refused →
    c ≠ .store ∨ 4 < v.toNat → s.stagesRefusal →
    ∃ t, exec (.upstreamWrite a v) s = .next t ∧ t.refusalStaged s .refusedValue a v ∧ t.agreesButNeutrals s) ∧
  (∀ (s : State) (a : Addr) (v : Word), s.inReset = false → s.uport = .idle → s.fellBack = true → a.toNat < 0x3FF00 →
    ∃ t, exec (.upstreamWrite a v) s = .next t ∧ t.agrees { s with uport := .waiting (.write a v .none) }) ∧
  (∀ (s : State) (a : Addr) (v : Word), s.uport = .idle → s.inReset = true ∨ s.cfg.state = .loading →
    ∃ t, exec (.upstreamWrite a v) s = .next t ∧ t.urdy = false ∧ t.agrees { s with uport := .kept (.write a v .none) })

/-- UPSTREAM_ACCESS_COMPLETE: the access ends, URDY rises unless the part is LOADING, and a read has the word of its
grant (R15, R25). -/
def Obligations.UpstreamAccessEnds : Prop :=
  ∀ (s : State) (a : Access) (w : Word), s.inReset = false → s.ins.port = .upstream → s.uport = .onPort a w →
    ∃ t, exec .upstreamAccessComplete s = .next t ∧ (s.cfg.state ≠ .loading → t.urdy = true) ∧
      t.agrees { s with uport := .idle, lastRead := (match a with
        | .read _ => some w
        | .write _ _ _ => s.lastRead) }

/-- HOLD_TIMER_EXPIRY (R13): the held write is forwarded unchanged, its address is recorded, and nothing else changes: no
entry is made. That a neutral write of the configuration unit still to be made to the held slot stands, R40 cancelling it
for a write taken or refused alone, is the model's choice (log entry 38). What recording does: nothing if the address is
listed; it is appended if there is a place; else the resync flag is set, or, during a sweep, the rerun mark. The clock
reaches the end of the hold (log entry 1). -/
def Obligations.HoldExpiryForwardsAndRecords : Prop :=
  (∀ (s : State) (a : Addr) (v : Word) (c : CSlot) (d : Nat), s.inReset = false → s.uport = .held a v c d →
    exec .holdTimerExpiry s = .next { s with uport := .waiting (.write a v .none), now := max s.now d,
                                             path := s.path.record a }) ∧
  (∀ (p : Path) (a : Addr),
    (p.listed a = true → p.record a = p) ∧
    (p.listed a = false → p.list.length < 8 → p.record a = { p with list := p.list ++ [⟨a, false⟩] }) ∧
    (p.listed a = false → 8 ≤ p.list.length → p.sweep = none → p.record a = { p with resync := true }) ∧
    (p.listed a = false → 8 ≤ p.list.length → p.sweep ≠ none → p.record a = { p with rerun := true }))

/-- CATCH_UP_READ_COMPLETE and SWEEP_READ_COMPLETE: a late value of DUTY that the axis can take becomes its duty in force,
and its address is off the list; a late value of any slot that its owner refuses leaves the list, an inserted write of the
slot's neutral value is offered and a LATE_REFUSED entry is staged where the writer has room for it; one answered busy, or
covered by a crash guard, has its address kept at its place in the list with no read pending, or, in a sweep, recorded as an
expiry records it, on a full list by the rerun mark, which at the last slot keeps the resync flag set. Nothing else changes
(R13, R17, R20, R65). That a late value taken or refused leaves a neutral write of the configuration unit still to be made
to its slot is the model's reading (log entry 23). -/
def Obligations.LateValuesAnswered : Prop :=
  ∀ (s : State) (c : Cycle) (w : Word) (k : CSlot), s.atWork → s.uport.isHeld = false → s.onDport c w →
    s.controlAt c.addr = some k →
    (∀ i : Fin 8, k = .axDuty i → s.guardCovers c.addr = false → s.axes[i].state = .idle →
      20 ≤ w.toNat → w.toNat ≤ 100 →
      (c.purpose = .catchUp → s.path.listed c.addr = true →
        ∃ t, exec .catchUpReadComplete s = .next t ∧ t.path.listed c.addr = false ∧
          t.agrees { s with axes := s.axes.set i { s.axes[i] with duty := w.toNat } }) ∧
      (c.purpose = .sweep → s.ins.pending.any (fun x => x.purpose == .sweep) = false →
        ∃ t, exec .sweepReadComplete s = .next t ∧
          t.agrees { s with axes := s.axes.set i { s.axes[i] with duty := w.toNat } })) ∧
    (s.guardCovers c.addr = false → s.answer k w = .refused → k ≠ .store ∨ 4 < w.toNat → s.stagesRefusal →
      (c.purpose = .catchUp → s.path.listed c.addr = true →
        ∃ t, exec .catchUpReadComplete s = .next t ∧ t.path.listed c.addr = false ∧
          t.offered (writeCycle .writeBack c.addr (s.neutralValue k) false) ∧
          t.refusalStaged s .lateRefused c.addr w ∧ t.agrees s) ∧
      (c.purpose = .sweep → s.ins.pending.any (fun x => x.purpose == .sweep) = false →
        ∃ t, exec .sweepReadComplete s = .next t ∧
          t.offered (writeCycle .writeBack c.addr (s.neutralValue k) false) ∧
          t.refusalStaged s .lateRefused c.addr w ∧ t.agrees s)) ∧
    (s.guardCovers c.addr = true ∨ s.answer k w = .busy →
      (c.purpose = .catchUp → s.ins.pending.any (fun x => x.purpose == .catchUp && x.addr == c.addr) = false →
        ∃ t, exec .catchUpReadComplete s = .next t ∧
          t.path.list = s.path.list.map (fun x => if x.addr = c.addr then ⟨c.addr, false⟩ else x) ∧ t.agrees s) ∧
      (c.purpose = .sweep → s.ins.pending.any (fun x => x.purpose == .sweep) = false → s.path.sweep = some c.addr →
        ∃ t, exec .sweepReadComplete s = .next t ∧ t.agrees s ∧
          (s.path.listed c.addr = true ∨ s.path.list.length < 8 → t.path.listed c.addr = true) ∧
          (s.path.listed c.addr = false → 8 ≤ s.path.list.length →
            t.path.list = s.path.list ∧
              (if s.nextSlot (c.addr.toNat + 1) = none then t.path.sweep = none ∧ t.path.resync = true
                else t.path.rerun = true))))

/-- DPORT_GRANT. A forwarded write that no block is told of is in memory, and every other word stands; a forwarded read has
the word that memory holds. An inserted write that is granted is in memory with its address and value, whichever block asked
for it, and every other word stands; an inserted read has the word that memory holds, and memory stands. A forwarded profile
check word that is granted is in memory and reported: its entry becomes INVALID and its check is called for, a check of it
in progress is void, its check begins where none runs and no other waits, and a recall that is reading it is aborted with
cause CHANGED. A forwarded word of the configuration block that is granted is in memory, and during a validation it spoils
it, the check word setting the restart mark too; in ACTIVE and FALLBACK a word below the check word has no effect. Nothing
else changes (R4, R8, R24, R25, R37, R38, R94, R100). That the cause stands in ABORTING already is the model's choice (log
entry 36). -/
def Obligations.GrantedWriteReachesMemory : Prop :=
  (∀ (s : State) (a : Addr) (v : Word), s.inReset = false → s.canonical → s.ins.port = .free →
    s.ins.queue = [] → s.uport = .waiting (.write a v .none) →
    ∃ t, exec .dportGrant s = .next t ∧ Memory.read t.mem a.toNat = v ∧
      (∀ b, b ≠ a.toNat → Memory.read t.mem b = Memory.read s.mem b) ∧
      t.agrees { s with mem := t.mem, uport := .onPort (.write a v .none) v }) ∧
  (∀ (s : State) (a : Addr), s.inReset = false → s.ins.port = .free → s.ins.queue = [] ∨ s.ins.passOver < 8 →
    s.uport = .waiting (.read a) →
    ∃ t, exec .dportGrant s = .next t ∧
      t.agrees { s with uport := .onPort (.read a) (Memory.read s.mem a.toNat) }) ∧
  (∀ (s : State) (c : Cycle) (rest : List Cycle), s.inReset = false → s.canonical → s.ins.port = .free →
    s.ins.head = some (c, rest) → s.forwarded = none ∨ 8 ≤ s.ins.passOver →
    (c.write = true → ∃ t, exec .dportGrant s = .next t ∧ Memory.read t.mem c.addr.toNat = c.value ∧
      (∀ b, b ≠ c.addr.toNat → Memory.read t.mem b = Memory.read s.mem b) ∧ t.agrees { s with mem := t.mem }) ∧
    (c.write = false → c.purpose.silent = false → ∃ t, exec .dportGrant s = .next t ∧
      t.ins.port = .inserted c (Memory.read s.mem c.addr.toNat) ∧ t.agrees s)) ∧
  (∀ (s : State) (a : Addr) (v : Word) (n : Fin 4), s.inReset = false → s.ins.port = .free →
    s.ins.queue = [] ∨ s.ins.passOver < 8 → s.uport = .waiting (.write a v (.profile n)) →
    (s.engine.plan.state ≠ .reading ∨ s.engine.plan.profile ≠ some n →
      (∀ r, s.engine.check = some r → ∃ t, exec .dportGrant s = .next t ∧
        t.agrees { s with
          mem := Memory.write s.mem a.toNat v, uport := .onPort (.write a v (.profile n)) v,
          engine := { s.engine with
            profiles := s.engine.profiles.set n { s.engine.profiles[n] with state := .invalid, mark := .pending },
            check := some (if r.profile = n then { r with void := true } else r) } }) ∧
      (s.engine.check = none → (∀ m : Fin 4, m ≠ n → s.engine.profiles[m].mark ≠ .pending) →
        ∃ t, exec .dportGrant s = .next t ∧ t.offered (readCycle .profileCheck (profileAddr s.conf n 0)) ∧
          t.agrees { s with
            mem := Memory.write s.mem a.toNat v, uport := .onPort (.write a v (.profile n)) v,
            engine := { s.engine with
              profiles := s.engine.profiles.set n { s.engine.profiles[n] with state := .invalid, mark := .running },
              check := some ⟨n, [], false⟩ } })) ∧
    (s.engine.plan.state = .reading → s.engine.plan.profile = some n → s.engine.plan.reading = true →
      ∃ t, exec .dportGrant s = .next t ∧ t.mem = Memory.write s.mem a.toNat v ∧
        t.engine.profiles[n].state = .invalid ∧ t.engine.profiles[n].mark ≠ .none ∧
        t.engine.plan = { s.engine.plan with state := .aborting, cause := some .changed } ∧
        t.agrees { s with mem := t.mem, uport := .onPort (.write a v (.profile n)) v, engine := t.engine })) ∧
  (∀ (s : State) (a : Addr) (v : Word), s.inReset = false → s.ins.port = .free →
    s.ins.queue = [] ∨ s.ins.passOver < 8 → s.uport = .waiting (.write a v .config) →
    (s.cfg.state = .validating → ∃ t, exec .dportGrant s = .next t ∧
      t.agrees { s with
        mem := Memory.write s.mem a.toNat v, uport := .onPort (.write a v .config) v,
        cfg := { s.cfg with spoil := (if s.cfg.spoil = .clear then .changed else s.cfg.spoil),
                            restart := (s.cfg.restart || a == 0x3FFFF) } }) ∧
    (s.cfg.state = .active ∨ s.cfg.state = .fallback → a ≠ 0x3FFFF → ∃ t, exec .dportGrant s = .next t ∧
      t.agrees { s with mem := Memory.write s.mem a.toNat v, uport := .onPort (.write a v .config) v }))

/-- The arbiter (R24): it decides while the D-port is free; the head of the insert queue is the oldest urgent entry, or
else the oldest; alone, a claimant is granted; where both are present the upstream access is granted while the
count is below 8, which rises by 1, and the insert head at 8; an inserted grant, the emptying of the queue by
removals and a reset return the count to 0; URDY stays low for an access that waits. That the D-port is free again at the
grant of a write whose completion no row reports is the model's choice (log entry 6). -/
def Obligations.ArbiterChoosesClaimant : Prop :=
  (∀ e : Ev, e.ins.port ≠ .free → e.grantPort = e) ∧
  (∀ e : Ev, e.ins.port = .free → e.forwarded = none → e.ins.queue = [] → e.grantPort = e) ∧
  (∀ (q : Inserts) (l r : List Cycle) (c : Cycle), q.queue = l ++ c :: r → c.urgent = true →
    l.all (fun x => !x.urgent) = true → q.head = some (c, l ++ r)) ∧
  (∀ (q : Inserts) (c : Cycle) (r : List Cycle), q.queue = c :: r → q.queue.all (fun x => !x.urgent) = true →
    q.head = some (c, r)) ∧
  (∀ (e : Ev) (a : Access), e.ins.port = .free → e.uport = .waiting a →
    (e.ins.queue = [] → e.grantPort.ins.port = .upstream ∧ e.grantPort.ins.passOver = e.ins.passOver) ∧
    (e.ins.queue ≠ [] → e.ins.passOver < 8 →
      e.grantPort.ins.port = .upstream ∧ e.grantPort.ins.passOver = e.ins.passOver + 1)) ∧
  (∀ (e : Ev) (c : Cycle) (rest : List Cycle), e.ins.port = .free → e.ins.head = some (c, rest) →
    (e.forwarded = none ∨ 8 ≤ e.ins.passOver) →
    e.grantPort.ins.passOver = 0 ∧ e.grantPort.uport = e.uport ∧
      e.grantPort.ins.port = (if c.purpose.silent then .free else .inserted c (e.cycleWord c))) ∧
  (∀ (q : Inserts) (p : Cycle → Bool), q.queue ≠ [] → q.queue.all p = true → (q.withdraw p).passOver = 0) ∧
  (∀ (k : ResetCause) (m : List (Nat × Word)) (l : List Instr) (n : Nat), (State.afterReset k m l n).ins.passOver = 0) ∧
  (∀ (s : State) (a : Access), s.uport = .waiting a → s.urdy = false)

/-- A REFUSAL entry of the path decoder carries the low 16 bits of the address in SUBJECT, the two high bits in bits
11:10 of KIND beside the code, and the value in DETAIL (R10). -/
def Obligations.RefusalEntryCarriesAddress : Prop :=
  ∀ (e : Ev) (code : EntryCode) (a : Addr) (v : Word), code.cls = .refusal →
    e.cfg.inForce.isSome = true → e.journal.staging.length < 8 →
    ∃ x, (e.refusal code a v).journal.staging = e.journal.staging ++ [x] ∧
      x.subject.toNat = a.toNat % 65536 ∧ field x.kind 10 2 = a.toNat / 65536 ∧ field x.kind 0 8 = code.num ∧
      field x.kind 12 4 = 3 ∧ x.detail = v ∧ (e.refusal code a v).uport = e.uport

/-- A host write to a word that a crash guard covers, TARGET or another CONTROL slot of its kinds, a profile record or the
configuration block, is dropped and counted, saturating at 65535 (R21). One into the record under a store guard is dropped with a STORE_GUARD entry,
where the writer has room for it, unless the crash guard covers it too (R22). -/
def Obligations.CrashGuardCountsDrops : Prop :=
  (∀ (s : State) (a : Addr) (v : Word) (r : Region) (i : Fin 8) (u : SlotUnit), s.atWork → s.uport = .idle →
    s.crashGuard = true → s.placeOf a = .slot r (.control (.axTarget i)) u →
    ∃ t, exec (.target a v) s = .next t ∧
      t.agrees { s with crash := { s.crash with drops := min 65535 (s.crash.drops + 1) } }) ∧
  (∀ (s : State) (a : Addr) (v : Word), s.atWork → s.uport = .idle → s.crashGuard = true →
    (s.placeOf a).crashCovered = true →
    ∃ t, exec (.upstreamWrite a v) s = .next t ∧
      t.agrees { s with crash := { s.crash with drops := min 65535 (s.crash.drops + 1) } }) ∧
  (∀ (s : State) (a : Addr) (v : Word) (r : Region) (k : SlotKind) (u : SlotUnit), s.atWork → s.uport = .idle →
    s.placeOf a = .slot r k u → s.storeGuard a = true → (s.crashGuard && (s.placeOf a).crashCovered) = false →
    (∃ t, exec (.upstreamWrite a v) s = .next t ∧ t.agrees s) ∧
    (s.stagesRefusal → ∃ t, exec (.upstreamWrite a v) s = .next t ∧ t.refusalStaged s .storeGuard a v))

/-! ## Host writes to the CONTROL slots -/

/-- DUTY, LIMIT_LO and LIMIT_HI (R65): a value out of range is refused; otherwise the write is busy, and held, in any
state but IDLE; in IDLE the absent value is taken with no effect, and any other value becomes the duty or the limit
in force. The neutral value of the three slots is the absent value. -/
def Obligations.SettingWritesAnswered : Prop :=
  ∀ (s : State) (a : Addr) (v : Word) (i : Fin 8),
    (s.reaches a (.axDuty i) →
      (v ≠ 0xFFFF → (v.toNat < 20 ∨ 100 < v.toNat) →
        ∃ t, exec (.duty a v) s = .next t ∧ t.agreesButNeutrals s) ∧
      (v = 0xFFFF ∨ (20 ≤ v.toNat ∧ v.toNat ≤ 100) →
        (s.axes[i].state ≠ .idle → ∃ t, exec (.duty a v) s = .next t ∧
          t.agrees { s with uport := .held a v (.axDuty i) (s.now + s.path.holdLimit) }) ∧
        (s.axes[i].state = .idle → ∃ t, exec (.duty a v) s = .next t ∧
          t.agreesButNeutrals { s with
            uport := .waiting (.write a v .none),
            axes := if v = 0xFFFF then s.axes else s.axes.set i { s.axes[i] with duty := v.toNat } }))) ∧
    (s.reaches a (.axLimitLo i) →
      (v ≠ 0xFFFF → ((s.axisConf i).stroke < v.toNat ∨ s.axes[i].limitHi ≤ v.toNat) →
        ∃ t, exec (.limitLo a v) s = .next t ∧ t.agreesButNeutrals s) ∧
      (v = 0xFFFF ∨ (v.toNat ≤ (s.axisConf i).stroke ∧ v.toNat < s.axes[i].limitHi) →
        (s.axes[i].state ≠ .idle → ∃ t, exec (.limitLo a v) s = .next t ∧
          t.agrees { s with uport := .held a v (.axLimitLo i) (s.now + s.path.holdLimit) }) ∧
        (s.axes[i].state = .idle → ∃ t, exec (.limitLo a v) s = .next t ∧
          t.agreesButNeutrals { s with
            uport := .waiting (.write a v .none),
            axes := if v = 0xFFFF then s.axes else s.axes.set i { s.axes[i] with limitLo := v.toNat } }))) ∧
    (s.reaches a (.axLimitHi i) →
      (v ≠ 0xFFFF → ((s.axisConf i).stroke < v.toNat ∨ v.toNat ≤ s.axes[i].limitLo) →
        ∃ t, exec (.limitHi a v) s = .next t ∧ t.agreesButNeutrals s) ∧
      (v = 0xFFFF ∨ (v.toNat ≤ (s.axisConf i).stroke ∧ s.axes[i].limitLo < v.toNat) →
        (s.axes[i].state ≠ .idle → ∃ t, exec (.limitHi a v) s = .next t ∧
          t.agrees { s with uport := .held a v (.axLimitHi i) (s.now + s.path.holdLimit) }) ∧
        (s.axes[i].state = .idle → ∃ t, exec (.limitHi a v) s = .next t ∧
          t.agreesButNeutrals { s with
            uport := .waiting (.write a v .none),
            axes := if v = 0xFFFF then s.axes else s.axes.set i { s.axes[i] with limitHi := v.toNat } }))) ∧
    s.neutralValue (.axDuty i) = 0xFFFF ∧ s.neutralValue (.axLimitLo i) = 0xFFFF ∧
    s.neutralValue (.axLimitHi i) = 0xFFFF

/-- TARGET, JOG_UP_FORWARD, JOG_DOWN_BACK and HOME on an idle axis whose claim fits start an IMAGE move (R49, R64, R79): a
referenced axis not yet at the position, no soft limit in the way. -/
def Obligations.ImageMovesStart : Prop :=
  ∀ (s : State) (i : Fin 8) (a : Addr), (s.axisConf i).fitted = true → s.axes[i].state = .idle →
    s.axes[i].pending = none → (s.crash.state == .armed && s.crashAxis i) = false → s.claimFits (axisClaimant i) →
    s.budget.motorTotal + s.budget.table[axisClaimant i].units ≤ s.conf.motorCap →
    (∀ v : Word, s.reaches a (.axTarget i) → v ≠ 0xFFFF → v.toNat ≤ (s.axisConf i).stroke →
      s.axes[i].referenced = true → v.toNat ≠ s.axes[i].count →
      s.axes[i].atLimit (.target v.toNat) (toward v.toNat s.axes[i].count) = false →
      ∃ t, exec (.target a v) s = .next t ∧ t.imageStarted s i a v (.target v.toNat)) ∧
    (s.reaches a (.axJog i) →
      (s.axes[i].atLimit (.jog .upForward) .upForward = false →
        ∃ t, exec (.jogUpForward a) s = .next t ∧ t.imageStarted s i a 1 (.jog .upForward)) ∧
      (s.axes[i].atLimit (.jog .downBack) .downBack = false →
        ∃ t, exec (.jogDownBack a) s = .next t ∧ t.imageStarted s i a 2 (.jog .downBack)) ∧
      (∃ t, exec (.home a) s = .next t ∧ t.imageStarted s i a 3 .home))

/-- JOG_STOP ends the IMAGE jog in force: drive off, grant released, STOPPING with its coast window of 30 ms; no other
axis changes (R47, R55, R64). -/
def Obligations.JogStopEndsImageJog : Prop :=
  ∀ (s : State) (i : Fin 8) (a : Addr) (d : Dir), s.reaches a (.axJog i) → (s.axisConf i).fitted = true →
    s.axes[i].state = .running → s.axes[i].mover = some .image → s.axes[i].goal = some (.jog d) →
    s.axes[i].owed = some (.jog d) → s.axes[i].pending = none → s.axes[i].grant = .held →
    (s.crash.state == .armed && s.crashAxis i) = false → s.budget.queue = [] →
    ∃ t, exec (.jogStop a) s = .next t ∧
      t.axes[i].state = .stopping ∧ t.axes[i].drive = none ∧ t.axes[i].goal = none ∧ t.axes[i].grant = .none ∧
      t.axes[i].lastCause = some .stopRequest ∧ t.axes[i].coastAt = some (s.now + 30000) ∧
      t.axes[i].count = s.axes[i].count ∧ t.axes[i].referenced = s.axes[i].referenced ∧
      t.budget.table[axisClaimant i].state = .none ∧ t.onlyAxis s i ∧
      t.agreesButNeutrals { s with uport := .waiting (.write a 0 .none), axes := t.axes, budget := t.budget }

/-- CHAMBER_TARGET on a sealed posture chamber: a higher pressure fills it, the pump's claim being granted, a lower one
vents it, the absent value has no effect, and a value above the maximum is refused (R126, R129, R130, R133). -/
def Obligations.ChamberTargetTaken : Prop :=
  ∀ (s : State) (c : Fin 12) (a : Addr) (v : Word), s.reaches a (.airTarget c) →
    (v ≠ 0xFFFF → (s.chamberConf c).maxPressure < v.toNat →
      ∃ t, exec (.chamberTarget a v) s = .next t ∧ t.agreesButNeutrals s) ∧
    (s.air.chambers[c].owner = .posture → v = 0xFFFF →
      ∃ t, exec (.chamberTarget a v) s = .next t ∧ t.agreesButNeutrals { s with uport := .waiting (.write a v .none) }) ∧
    (s.air.chambers[c].owner = .posture → s.air.chambers[c].state = .sealed → s.air.chambers[c].fillOnly = false →
      s.pumpAtRest → v ≠ 0xFFFF → v.toNat ≤ (s.chamberConf c).maxPressure → (s.chamberConf c).role ≠ .massage →
      (v.toNat < s.air.chambers[c].pressure →
        ∃ t, exec (.chamberTarget a v) s = .next t ∧
          t.agreesButNeutrals { s with
            uport := .waiting (.write a v .none),
            air := { s.air with chambers := s.air.chambers.set c { s.air.chambers[c] with
              state := .venting, posture := some v.toNat, target := some v.toNat, slotRequest := true,
              refills := [], fillTime := 0, fault := .none, settlePending := false, protective := false } } }) ∧
      (s.air.chambers[c].pressure < v.toNat → s.claimFits pumpClaimant →
        ∃ t, exec (.chamberTarget a v) s = .next t ∧ t.pumpOn = true ∧
          t.budget.table[pumpClaimant].state = .granted ∧ t.budget.table[pumpClaimant].priority = some .pump ∧
          t.agreesButNeutrals { s with
            uport := .waiting (.write a v .none), budget := t.budget,
            air := { s.air with claim := some .pump, granted := true, chambers := s.air.chambers.set c { s.air.chambers[c] with
              state := .filling, posture := some v.toNat, target := some v.toNat, slotRequest := true,
              refills := [], fillTime := 0, fault := .none, settlePending := false, protective := false } } }))

/-- RECALL and RECALL_CANCEL. A request for a valid profile, no recall, store or check in the way: READING, its first read
offered, the request mark holding the number. A cancel with no recall in force and none queued has no effect; a recall that
is READING is aborted with cause CANCELLED, and ABORTING waits for the read in flight (R99, R100, R105, R107). That a recall
held queued stays queued when another one starts is the model's choice (log entry 36). -/
def Obligations.RecallWritesTaken : Prop :=
  (∀ (s : State) (a : Addr) (v : Word), s.reaches a .recall → 1 ≤ v.toNat → v.toNat ≤ 4 →
    (s.engine.plan.state = .idle ∨ s.engine.plan.state = .done) → s.engine.store = none →
    s.engine.profiles[slotProfile v].state = .valid → s.engine.profiles[slotProfile v].mark = .none →
    markIs s.engine.recallMark v = false →
    ∃ t, exec (.recall a v) s = .next t ∧
      t.offered (readCycle .recallRead (profileAddr s.conf (slotProfile v) 0)) ∧
      t.agreesButNeutrals { s with
        uport := .waiting (.write a v .none),
        engine := { s.engine with
          recallMark := some ⟨v.toNat, false⟩,
          plan := { s.engine.plan with
            state := .reading, profile := some (slotProfile v), origin := some .slot, copy := [], reading := true,
            legs := [], result := .none, cause := none } } }) ∧
  (∀ (s : State) (a : Addr), s.reaches a .recall → s.engine.plan.queued = none →
    (s.engine.plan.state = .idle ∨ s.engine.plan.state = .done →
      ∃ t, exec (.recallCancel a) s = .next t ∧ t.agreesButNeutrals { s with uport := .waiting (.write a 0 .none) }) ∧
    (s.engine.plan.state = .reading → s.engine.plan.reading = true → s.engine.plan.legs = [] →
      ∃ t, exec (.recallCancel a) s = .next t ∧
        t.agreesButNeutrals { s with
          uport := .waiting (.write a 0 .none),
          engine := { s.engine with plan := { s.engine.plan with state := .aborting, cause := some .cancelled } } }))

/-- STORE that finds no store, recall or check in progress and no axis at work is taken: the entry is WRITING, the first
of the 33 writes is offered, the marker 0x57 with the present store count (R95 to R97, R107). -/
def Obligations.StoreTaken : Prop :=
  ∀ (s : State) (a : Addr) (v : Word), s.reaches a .store → 1 ≤ v.toNat → v.toNat ≤ 4 →
    s.storeVerdict (slotProfile v) = .free → markIs s.engine.storeMark v = false →
    inRecord s.conf (slotProfile v) a = false →
    ∃ t, exec (.store a v) s = .next t ∧
      t.offered (writeCycle .storeWrite (profileAddr s.conf (slotProfile v) 0)
        (bytes 0x57 s.engine.profiles[slotProfile v].count) false) ∧
      t.agreesButNeutrals { s with
        uport := .waiting (.write a v .none),
        engine := { s.engine with
          storeMark := some ⟨v.toNat, false⟩,
          profiles := s.engine.profiles.set (slotProfile v) { s.engine.profiles[slotProfile v] with state := .writing },
          store := some {
            profile := slotProfile v, fromSlot := true, done := 0,
            newCount := (s.engine.profiles[slotProfile v].count + 1) % 256,
            writes := storeWrites s.engine.profiles[slotProfile v].count s.storeWords } } }

/-- MASSAGE_START in OFF: the pattern is fetched at the intensity asked for, 0 meaning the last one. MASSAGE_STOP in RUNNING with no
chamber of owner MASSAGE left: ENDING has nothing to wait for, and massage is OFF, its timers stopped. The last word of a
pattern that checks: massage is RUNNING with its first step, the session timer starts, every fitted MASSAGE chamber takes
owner MASSAGE but one in FAULT or still of owner CRASH (log entry 35), and a chamber of the step settles to the step
target, the pump being claimed for a fill (R134, R135, R137 to R141). -/
def Obligations.MassageWritesTaken : Prop :=
  (∀ (s : State) (a : Addr) (p i : Byte), s.reaches a .massage → s.air.massage.state = .off → 1 ≤ p.toNat →
    p.toNat ≤ 8 → i.toNat ≤ 5 →
    ∃ t, exec (.massageStart a p i) s = .next t ∧ t.air.massage.state = .fetching ∧
      t.air.massage.pattern.map (fun x => x.val + 1) = some p.toNat ∧ t.air.massage.buffer = [] ∧
      t.air.massage.intensity = (if i.toNat = 0 then s.air.massage.lastIntensity else i.toNat) ∧
      t.air.massage.lastIntensity = t.air.massage.intensity ∧
      t.offered (readCycle .patternFetch (regionAddr s.conf .air (64 + 96 * (p.toNat - 1)))) ∧
      t.agreesButNeutrals { s with uport := .waiting (.write a (bytes i.toNat p.toNat) .none),
                                   air := { s.air with massage := t.air.massage } }) ∧
  (∀ (s : State) (a : Addr) (i : Byte) (p : Fin 8), s.reaches a .massage → s.air.massage.state = .running →
    s.air.massage.pattern = some p → i.toNat ≤ 5 → (∀ c : Fin 12, s.air.chambers[c].owner ≠ .massage) →
    ∃ t, exec (.massageStop a i) s = .next t ∧ t.air.massage.state = .off ∧ t.air.massage.phaseAt = none ∧
      t.air.massage.sessionAt = none ∧
      t.agreesButNeutrals { s with uport := .waiting (.write a (bytes i.toNat 0) .none),
                                   air := { s.air with massage := t.air.massage } }) ∧
  (∀ (s : State) (x : Cycle) (w : Word) (p : Fin 8), s.inReset = false → s.uport.isHeld = false → s.onDport x w →
    x.purpose = .patternFetch → s.air.massage.state = .fetching → s.air.massage.pattern = some p →
    s.air.massage.buffer.length = 4 * patternSteps (s.air.massage.buffer ++ [w]) →
    s.patternFailure (s.air.massage.buffer ++ [w]) = none →
    (∃ t, exec .patternFetchReadComplete s = .next t ∧ t.air.massage.state = .running ∧ t.air.massage.step = 0 ∧
      t.air.massage.passes = 0 ∧ t.air.massage.pattern = some p ∧ t.air.massage.buffer = s.air.massage.buffer ++ [w] ∧
      t.air.massage.sessionAt = some (s.now + 60000000 * s.conf.massageSession) ∧
      (∀ c : Fin 12, (s.chamberConf c).fitted = true → (s.chamberConf c).role = .massage →
        s.air.chambers[c].state ≠ .fault → s.air.chambers[c].owner ≠ .crash → t.air.chambers[c].owner = .massage)) ∧
    (∀ (c : Fin 12) (n h g : Nat), stepSet (stepWord (s.air.massage.buffer ++ [w]) 0 0) = [c] →
      (s.chamberConf c).fitted = true → (s.chamberConf c).role = .massage → s.air.chambers[c].state = .sealed →
      s.air.chambers[c].owner = .none → s.air.chambers[c].fillOnly = false → s.crashGuard = false → s.pumpAtRest →
      s.budget.queue = [] → n = lo (stepWord (s.air.massage.buffer ++ [w]) 0 1) → n ≠ 0 →
      h = hi (stepWord (s.air.massage.buffer ++ [w]) 0 1) →
      g = (if field ((s.air.massage.buffer ++ [w]).getD 0 0) 5 3 = 1
        then (s.chamberConf c).maxPressure * h * h * s.air.massage.intensity / 325125
        else (s.chamberConf c).maxPressure * h * s.air.massage.intensity / 1275) →
      ∃ t, exec .patternFetchReadComplete s = .next t ∧ t.air.chambers[c].target = some g ∧
        (g < s.air.chambers[c].pressure → t.air.chambers[c].state = .venting) ∧
        (s.air.chambers[c].pressure < g → s.claimFits pumpClaimant →
          t.air.chambers[c].state = .filling ∧ t.pumpOn = true) ∧
        (g ≠ s.air.chambers[c].pressure → t.air.massage.phase = some .rise ∧ t.air.massage.riseLeft = [c] ∧
          t.air.massage.phaseAt = some (s.now + 100000 * n))))

/-- PANEL_ENABLE and PANEL_DISABLE write the enable flag and the panel state follows it; a panel that leaves NORMAL with
nothing to withdraw closes its store window and clears its conflict marks (R114, R115, R121). -/
def Obligations.PanelEnableWritten : Prop :=
  ∀ (s : State) (a : Addr), s.reaches a .panelEnable →
    (s.panel.shown = s.panelState → ∃ t, exec (.panelEnable a) s = .next t ∧
      t.agreesButNeutrals { s with uport := .waiting (.write a 1 .none),
                                   panel := { s.panel with enabled := true, shown := t.panelState } } ∧
      t.panelState = (if s.crashDisables then .disabled else if s.panel.ambiguous then .ambiguous else .normal)) ∧
    (s.panel.shown ≠ .normal → ∃ t, exec (.panelDisable a) s = .next t ∧
      t.agreesButNeutrals { s with uport := .waiting (.write a 0 .none),
                                   panel := { s.panel with enabled := false, shown := .disabled } }) ∧
    (s.panel.shown = .normal → s.panel.members = [] →
      (∀ i : Fin 8, s.axes[i].mover ≠ some .panel ∧ ∀ r, s.axes[i].pending = some r → r.mover ≠ .panel) →
      ∃ t, exec (.panelDisable a) s = .next t ∧
        t.agreesButNeutrals { s with
          uport := .waiting (.write a 0 .none),
          panel := { s.panel with enabled := false, shown := .disabled, storeWindow := none,
                                  conflict := Vector.replicate 8 false } })

/-- CRASH_CLEAR: refused in every state but LOCKED; in LOCKED, with nothing moving, the controller goes to IDLE, the crash
hold ends, the drop count is 0 and an urgent write of NONE to CRASH_RECORD is offered (R89, R178, R179). -/
def Obligations.CrashClearUnlocks : Prop :=
  ∀ (s : State) (a : Addr), s.reaches a .crashClear →
    (s.crash.state ≠ .locked → ∃ t, exec (.crashClear a) s = .next t ∧ t.agreesButNeutrals s) ∧
    (s.crash.state = .locked → s.atRest → s.panel.shown = .disabled →
      ∃ t, exec (.crashClear a) s = .next t ∧
        t.offered (writeCycle .crashRecord (regionAddr s.conf .seat 5) 0 true) ∧
        t.agreesButNeutrals { s with
          uport := .waiting (.write a 1 .none),
          crash := { s.crash with state := .idle, drops := 0 },
          budget := { s.budget with crashHold := false },
          panel := { s.panel with shown := t.panelState } })

/-- LEVEL: above 3 refused; a FAULTED zone keeps it as an acknowledgement; a zone that needs no claim takes it as its
level, with its step-down timer at 3; 0 puts an unclaimed zone off (R149, R152, R153, R156, R157). -/
def Obligations.LevelTaken : Prop :=
  ∀ (s : State) (a : Addr) (v : Word) (z : Fin 6), s.reaches a (.level z) →
    (3 < v.toNat → ∃ t, exec (.level a v) s = .next t ∧ t.agreesButNeutrals s) ∧
    (v.toNat ≤ 3 → s.zones[z].state = .faulted → s.pairOf z = none →
      ∃ t, exec (.level a v) s = .next t ∧
        t.agreesButNeutrals { s with uport := .waiting (.write a v .none),
                                     zones := s.zones.set z { s.zones[z] with ack := some (v.toNat, true) } }) ∧
    (1 ≤ v.toNat → v.toNat ≤ 3 → s.zones[z].state ≠ .faulted → v.toNat ≠ s.zones[z].level → s.pairOf z = none →
      (isHeater z = true ∨ s.zones[z].level ≠ 0) →
      ∃ t, exec (.level a v) s = .next t ∧
        t.agreesButNeutrals { s with
          uport := .waiting (.write a v .none),
          zones := s.zones.set z { s.zones[z] with
            level := v.toNat,
            stepSince := if v.toNat = 3 ∧ (s.zoneConf z).stepDown ≠ 0 then some s.now else none } }) ∧
    (v = 0 → s.zones[z].state = .off → s.zones[z].level ≠ 0 → s.budget.table[zoneClaimant z].state = .none →
      ∃ t, exec (.level a v) s = .next t ∧
        t.agreesButNeutrals { s with uport := .waiting (.write a v .none),
                                     zones := s.zones.set z { s.zones[z] with level := 0, stepSince := none } })

/-- READ_INDEX: a value above 63, one that would free more than is unread, or any in a ring not READY is refused; else the
places up to it are free, the overrun flag clears, and the count of unread entries falls (R184). -/
def Obligations.ReadIndexFrees : Prop :=
  ∀ (s : State) (a : Addr) (v : Word), s.reaches a .readIndex →
    (s.journal.ring ≠ .ready ∨ 63 < v.toNat ∨ s.journal.unread < s.journal.freed v →
      ∃ t, exec (.readIndex a v) s = .next t ∧ t.journal.read = s.journal.read ∧ t.agreesButNeutrals s) ∧
    (s.journal.ring = .ready → v.toNat ≤ 63 → 0 < s.journal.freed v → s.journal.freed v ≤ s.journal.unread →
      ∃ t, exec (.readIndex a v) s = .next t ∧ t.journal.read.val = v.toNat ∧
        t.journal.unread = s.journal.unread - s.journal.freed v ∧ t.journal.overrun = false ∧
        t.agreesButNeutrals { s with uport := .waiting (.write a v .none) })

/-- CONFIG_CHECK_WORD_WRITE, CONFIG_WORD_WRITE and PROFILE_CHECK_WORD_WRITE are forwarded, to be reported to the configuration
unit or to the engine when they take effect; in FALLBACK the writes to the block are too (R3, R4, R8). -/
def Obligations.ConfigWritesForwarded : Prop :=
  ∀ (s : State) (v : Word), s.inReset = false → s.uport = .idle →
    ((s.working = true ∧ s.crashGuard = false) ∨ s.fellBack = true →
      (∃ t, exec (.configCheckWordWrite v) s = .next t ∧
        t.agrees { s with uport := .waiting (.write 0x3FFFF v .config) }) ∧
      (∀ a : Addr, 0x3FF00 ≤ a.toNat → ∃ t, exec (.configWordWrite a v) s = .next t ∧
        t.agrees { s with uport := .waiting (.write a v .config) })) ∧
    (∀ (a : Addr) (n : Fin 4), s.working = true → s.crashGuard = false → s.storeGuard a = false →
      s.placeOf a = .slot .profile (.record (.profile n)) .none →
      ∃ t, exec (.profileCheckWordWrite a v) s = .next t ∧
        t.agrees { s with uport := .waiting (.write a v (.profile n)) })

/-! ## Configuration -/

/-- DPORT_GRANT of a write to the configuration check word: it is in memory, and from ACTIVE or FALLBACK a validation starts, its
candidate empty and its first read offered. VALIDATION_READ_COMPLETE of the last word, nothing having spoiled the validation: before
ACTIVE, a block that passes the checks comes in force and start-up begins with the shadow of the first fitted axis, the
soft limits set from the strokes; one that fails puts the part in FALLBACK, and a kept write is forwarded. From ACTIVE, a
block that passes is applied: windows, hold limit, units and cap are the new ones, massage is off, a recall goes on no
further, every axis drive is off, and an axis of a new stroke is unreferenced (R15, R29, R30, R34, R36, R37, R39 to R42, R90,
R109). -/
def Obligations.CheckWordStartsValidation : Prop :=
  (∀ (s : State) (v : Word), s.inReset = false → s.ins.port = .free → s.ins.queue = [] →
    s.uport = .waiting (.write 0x3FFFF v .config) →
    (∀ o : ConfOrigin, (s.cfg.state = .active ∧ o = .active) ∨ (s.cfg.state = .fallback ∧ o = .fallback) →
      ∃ t, exec .dportGrant s = .next t ∧ t.offered (readCycle .validation 0x3FF00) ∧
        t.agrees { s with mem := Memory.write s.mem 0x3FFFF v, uport := .onPort (.write 0x3FFFF v .config) v,
                          cfg := { s.cfg with state := .validating, origin := some o, candidate := [],
                                              spoil := .clear, restart := false } })) ∧
  (∀ (s : State) (x : Cycle) (w : Word) (ws : List Word), s.inReset = false → s.uport.isHeld = false → s.onDport x w →
    x.purpose = .validation → ws = s.cfg.candidate ++ [w] → ws.length = 256 → s.cfg.spoil = .clear →
    s.cfg.restart = false →
    (s.cfg.origin ≠ some .active →
      (∀ i : Fin 8, failure ws = none → (confOf ws).axes[i].fitted = true →
        (∀ j : Fin 8, j < i → (confOf ws).axes[j].fitted = false) →
        ∃ t, exec .validationReadComplete s = .next t ∧
          t.offered (readCycle .startUp (regionAddr (confOf ws) .axis (16 * i.val + 9))) ∧
          (∀ j : Fin 8, t.axes[j] = if (confOf ws).axes[j].fitted
            then { s.axes[j] with limitLo := 40, limitHi := (confOf ws).axes[j].stroke - 40 } else s.axes[j]) ∧
          t.agrees { s with axes := t.axes, cfg := { s.cfg with
            state := .loading, origin := none, inForce := some (confOf ws), candidate := [], step := .shadows i,
            words := [] } }) ∧
      (∀ f, failure ws = some f →
        (s.uport = .idle → ∃ t, exec .validationReadComplete s = .next t ∧ t.path.table = fallbackTable ws ∧
          t.agrees { s with cfg := { s.cfg with
            state := .fallback, origin := none, candidate := [], lastReason := f.1, lastSubject := f.2 } }) ∧
        (∀ a v, s.uport = .kept (.write a v .none) → a.toNat < 0x3FF00 →
          ∃ t, exec .validationReadComplete s = .next t ∧ t.path.table = fallbackTable ws ∧
            t.agrees { s with uport := .waiting (.write a v .none), cfg := { s.cfg with
              state := .fallback, origin := none, candidate := [], lastReason := f.1, lastSubject := f.2 } }))) ∧
    (s.cfg.origin = some .active → s.crash.state ≠ .restoring → failure ws = none →
      ∃ t, exec .validationReadComplete s = .next t ∧ t.cfg.state = .active ∧ t.cfg.origin = none ∧
        t.cfg.inForce = some (confOf ws) ∧ t.cfg.candidate = [] ∧ t.path.table = tableOf (confOf ws).windows ∧
        t.path.holdLimit = (confOf ws).holdLimit ∧
        t.budget.effective = (if s.budget.sagging then (confOf ws).reducedCap else (confOf ws).totalCap) ∧
        (∀ c : Fin 15, t.budget.table[c].units = claimUnits (confOf ws) c) ∧ t.air.massage.state = .off ∧
        (s.engine.plan.queued = none → t.recallAbortable = false) ∧
        (∀ i : Fin 8, (s.axisConf i).fitted = true → s.axes[i].sound → t.axes[i].drive = none ∧
          ((s.axisConf i).stroke ≠ (confOf ws).axes[i].stroke → t.axes[i].referenced = false))))

/-- VALIDATION_READ_COMPLETE: the word is stored in the candidate at its place, and the next read is offered. At the last word, from ACTIVE: a
check word that does not match rejects the candidate with BAD_CHECK, and a write to the block during the validation with
CHANGED_DURING_CHECK; the configuration in force stands (R28 to R30, R38, R39). -/
def Obligations.ValidationReadsGoOn : Prop :=
  (∀ (s : State) (c : Cycle) (w : Word), s.inReset = false → s.uport.isHeld = false → s.onDport c w →
    c.purpose = .validation → s.cfg.candidate.length < 255 →
    ∃ t, exec .validationReadComplete s = .next t ∧
      t.offered (readCycle .validation (toAddr (0x3FF00 + s.cfg.candidate.length + 1))) ∧
      t.agrees { s with cfg := { s.cfg with candidate := s.cfg.candidate ++ [w] } }) ∧
  (∀ (s : State) (c : Cycle) (w : Word), s.inReset = false → s.uport.isHeld = false → s.onDport c w →
    c.purpose = .validation → s.cfg.candidate.length = 255 → s.cfg.state = .validating →
    s.cfg.origin = some .active → s.cfg.restart = false →
    (s.cfg.spoil = .clear → s.crash.state ≠ .restoring → w ≠ checkWord 0xC3 s.cfg.candidate →
      ∃ t, exec .validationReadComplete s = .next t ∧
        t.agrees { s with cfg := { s.cfg with state := .active, origin := none, candidate := [], spoil := .clear,
                                              lastReason := .badCheck, lastSubject := none } }) ∧
    (s.cfg.spoil = .changed →
      ∃ t, exec .validationReadComplete s = .next t ∧
        t.agrees { s with cfg := { s.cfg with state := .active, origin := none, candidate := [], spoil := .clear,
                                              lastReason := .changedDuringCheck, lastSubject := none } }))

/-- START_UP_READ_COMPLETE: a word of a shadow is kept and the next is read; the word of CRASH_RECORD is the last of the
start-up, and the neutral writes begin with the lowest slot, whose write is offered with its neutral value (R34, R35). -/
def Obligations.StartUpReadsGoOn : Prop :=
  ∀ (s : State) (c : Cycle) (w : Word), s.inReset = false → s.uport.isHeld = false → s.onDport c w →
    c.purpose = .startUp →
    (∀ i : Fin 8, s.cfg.step = .shadows i → s.cfg.words.length < 2 →
      ∃ t, exec .startUpReadComplete s = .next t ∧
        t.offered (readCycle .startUp (regionAddr s.conf .axis (16 * i.val + 9 + (s.cfg.words.length + 1)))) ∧
        t.agrees { s with cfg := { s.cfg with words := s.cfg.words ++ [w] } }) ∧
    (s.cfg.step = .crashRecord →
      ∃ t, exec .startUpReadComplete s = .next t ∧
        (∀ d, s.neutralSlots.head? = some d →
          t.offered (writeCycle (.neutral d) (slotAddr s.conf d) (s.neutralValue d) false)) ∧
        t.agrees { s with cfg := { s.cfg with crashRecord := w, step := .neutral, words := [],
                                              neutralNow := s.neutralSlots.head?,
                                              neutralLeft := s.neutralSlots.tail } })

/-- NEUTRAL_WRITE_COMPLETE: the next slot is written; after the last of the start-up, with no crash record and no access
kept, ACTIVE is entered: the windows and the hold limit, the caps and units, the owners of the chambers (R35, R76, R123). -/
def Obligations.NeutralWritesEndInActive : Prop :=
  ∀ (s : State) (c : Cycle) (w : Word) (d : CSlot), s.inReset = false → s.uport = .idle → s.onDport c w →
    c.purpose = .neutral d → s.cfg.neutralNow = some d →
    (∀ d' rest, s.cfg.neutralLeft = d' :: rest →
      ∃ t, exec .neutralWriteComplete s = .next t ∧
        t.offered (writeCycle (.neutral d') (slotAddr s.conf d') (s.neutralValue d') false) ∧
        t.agrees { s with cfg := { s.cfg with neutralNow := some d', neutralLeft := rest } }) ∧
    (s.cfg.neutralLeft = [] → s.cfg.step = .neutral → s.cfg.crashRecord ≠ 0x00A5 → s.panel.shown = .disabled →
      ∃ t, exec .neutralWriteComplete s = .next t ∧ t.path.table = tableOf s.conf.windows ∧
        t.path.holdLimit = s.conf.holdLimit ∧ t.budget.effective = s.conf.totalCap ∧
        (∀ x : Fin 15, t.budget.table[x].units = claimUnits s.conf x ∧
          t.budget.table[x].state = s.budget.table[x].state) ∧
        (∀ n : Fin 12, (s.chamberConf n).fitted = true → t.air.chambers[n].owner = s.homeOwner n) ∧
        t.agrees { s with
          cfg := { s.cfg with state := .active, origin := none, step := .none, words := [], neutralNow := none },
          crash := { s.crash with state := .idle },
          budget := t.budget, air := t.air, panel := { s.panel with shown := t.panelState } })

/-! ## Axes -/

/-- MARKER_WRITE_COMPLETE and CRASH_DEAD_TIME_END energise the drive: the first when the grant is held, else it is only noted that
the marker is written; the second at the end of the dead time, which the clock reaches (log entry 1) (R50, R70). -/
def Obligations.DriveEnergised : Prop :=
  ∀ (s : State) (i : Fin 8) (g : Goal), s.inReset = false → s.uport.isHeld = false → s.axes[i].state = .starting →
    s.axes[i].goal = some g → g.position ≠ some s.axes[i].count →
    (∀ c w, s.onDport c w → c.purpose = .marker i → s.axes[i].mover ≠ some .crash →
      (s.axes[i].grant = .held → ∃ t, exec .markerWriteComplete s = .next t ∧ t.drivesToward s i g s.now ∧
        t.agrees { s with axes := t.axes }) ∧
      (s.axes[i].grant = .claimed → ∃ t, exec .markerWriteComplete s = .next t ∧
        t.agrees { s with axes := s.axes.set i { s.axes[i] with markerDone := true } })) ∧
    (∀ d, s.axes[i].deadAt = some d → ∃ t, exec (.crashDeadTimeEnd i) s = .next t ∧
      t.drivesToward s i g (max s.now d) ∧ t.agrees { s with axes := t.axes, now := max s.now d })

/-- HALL_EDGE with the drive off moves the count by one in the last direction, wrapping while unreferenced; beyond 0 or
stroke a referenced axis becomes unreferenced and keeps its count; the first edge in IDLE or BLOCKED sets the idle edge mark.
An edge of a driven, referenced axis moves the count in the direction driven: one that brings it to the position of a TARGET
ends the move with REACHED; one that brings it to a soft limit, or beyond, ends a TARGET not reached or a JOG with LIMIT;
after any other, with no pinch check due, the move goes on, its stall window started anew (R51 to R53, R57, R58). That an
edge which brings the count to the position and to the limit together ends the move with REACHED is the model's reading (log
entry 17). The time since the event before passes on the clock (log entry 1). -/
def Obligations.HallEdgeCounts : Prop :=
  ∀ (s : State) (i : Fin 8) (dt : Nat), s.inReset = false → s.uport.isHeld = false → (s.axisConf i).fitted = true →
    (s.axes[i].drive = none → s.axes[i].goal = none →
      (∀ n, (s.axes[i].referenced = true ∧ s.axes[i].lastDir = .upForward ∧ s.axes[i].count < (s.axisConf i).stroke ∧
              n = s.axes[i].count + 1) ∨
            (s.axes[i].referenced = true ∧ s.axes[i].lastDir = .downBack ∧ s.axes[i].count = n + 1) ∨
            (s.axes[i].referenced = false ∧ s.axes[i].lastDir = .upForward ∧ n = (s.axes[i].count + 1) % 65536) ∨
            (s.axes[i].referenced = false ∧ s.axes[i].lastDir = .downBack ∧ n = (s.axes[i].count + 65535) % 65536) →
        (s.axes[i].state = .stopping → ∃ t, exec (.hallEdge i dt) s = .next t ∧
          t.agrees { s with now := s.now + dt, axes := s.axes.set i { s.axes[i] with count := n } }) ∧
        (s.axes[i].state = .idle ∨ s.axes[i].state = .blocked → ∃ t, exec (.hallEdge i dt) s = .next t ∧
          t.agrees { s with now := s.now + dt, axes := s.axes.set i { s.axes[i] with count := n, idleEdge := true } })) ∧
      (s.axes[i].state = .stopping → s.axes[i].referenced = true →
        ((s.axes[i].lastDir = .upForward ∧ (s.axisConf i).stroke ≤ s.axes[i].count) ∨
          (s.axes[i].lastDir = .downBack ∧ s.axes[i].count = 0)) →
        ∃ t, exec (.hallEdge i dt) s = .next t ∧
          t.agrees { s with now := s.now + dt, axes := s.axes.set i { s.axes[i] with referenced := false } })) ∧
    (∀ (d : Dir) (g : Goal) (n : Nat), s.axes[i].drive = some d → s.axes[i].state = .running →
      s.axes[i].referenced = true → s.movesAlone i g → ((∃ p, g = .target p) ∨ ∃ e, g = .jog e) →
      ((d = .upForward ∧ s.axes[i].count < (s.axisConf i).stroke ∧ n = s.axes[i].count + 1) ∨
        (d = .downBack ∧ s.axes[i].count = n + 1)) →
      (∀ p, g = .target p → countPast d p n →
        ∃ t, exec (.hallEdge i dt) s = .next t ∧ t.stopped s i .reached (s.now + dt) ∧ t.axes[i].count = n ∧
          t.axes[i].referenced = true ∧ t.agrees { s with now := s.now + dt, axes := t.axes, budget := t.budget }) ∧
      ((∀ p, g = .target p → ¬ countPast d p n) → countPast d (s.axes[i].softLimit d) n →
        ∃ t, exec (.hallEdge i dt) s = .next t ∧ t.stopped s i .limit (s.now + dt) ∧ t.axes[i].count = n ∧
          t.axes[i].referenced = true ∧ t.agrees { s with now := s.now + dt, axes := t.axes, budget := t.budget }) ∧
      ((∀ p, g = .target p → ¬ countPast d p n) → ¬ countPast d (s.axes[i].softLimit d) n →
        s.pinchOn i = false ∨ s.axes[i].blankAt ≠ none →
        ∃ t, exec (.hallEdge i dt) s = .next t ∧
          t.agrees { s with now := s.now + dt, axes := s.axes.set i { s.axes[i] with
            count := n, lastEdge := some (s.now + dt),
            lastPeriod := (match s.axes[i].lastEdge with
              | some e => some (s.now + dt - e)
              | none => s.axes[i].lastPeriod),
            stallAt := some (s.now + dt + 1000 * (s.axisConf i).stallWindow) } }))

/-- MOTOR_CURRENT_SAMPLE and START_BLANKING_END: a sample of a driven axis is kept, and above the baseline by more than the
pinch threshold it reverses the axis; at the end of blanking the baselines are taken; that the current baseline stays unknown
where no sample has arrived in the move is the model's reading (log entry 30). HALL_PERIOD_TIMEOUT detects a pinch once 1.5
times the baseline has passed since the last edge; REVERSAL_DEAD_TIME_END starts the back-off in the opposite direction (R53,
R54). The expiries reach their time on the clock (log entry 1). -/
def Obligations.PinchDetected : Prop :=
  (∀ (s : State) (i : Fin 8), s.inReset = false → s.uport.isHeld = false → (s.axisConf i).fitted = true →
    (∀ v : Word,
      (s.axes[i].drive = none → ∃ t, exec (.motorCurrentSample i v) s = .next t ∧
        t.agrees { s with meas := { s.meas with motor := s.meas.motor.set i (some v) } }) ∧
      (s.axes[i].drive ≠ none → s.axes[i].currentBase = none → ∃ t, exec (.motorCurrentSample i v) s = .next t ∧
        t.agrees { s with meas := { s.meas with motor := s.meas.motor.set i (some v) },
                          axes := s.axes.set i { s.axes[i] with current := some v.toNat } }) ∧
      (∀ b, s.axes[i].currentBase = some b → s.pinchChecks i = true → b + (s.axisConf i).pinchThreshold < v.toNat →
        ∃ t, exec (.motorCurrentSample i v) s = .next t ∧ t.reverses s i s.now ∧
          t.agrees { s with meas := { s.meas with motor := s.meas.motor.set i (some v) }, axes := t.axes })) ∧
    (∀ d, s.axes[i].blankAt = some d →
      (s.pinchOn i = true → ∃ t, exec (.startBlankingEnd i) s = .next t ∧
        t.axes[i].currentBase = s.axes[i].current ∧ t.axes[i].hallBase = s.axes[i].lastPeriod ∧
        t.axes[i].blankAt = none ∧ t.axes[i].state = .running ∧ t.axes[i].drive = s.axes[i].drive ∧
        t.onlyAxis s i ∧ t.agrees { s with now := max s.now d, axes := t.axes }) ∧
      (s.pinchOn i = false → ∃ t, exec (.startBlankingEnd i) s = .next t ∧
        t.agrees { s with now := max s.now d, axes := s.axes.set i { s.axes[i] with blankAt := none } }))) ∧
  (∀ (s : State) (i : Fin 8), s.inReset = false → s.uport.isHeld = false →
    (∀ b d, s.axes[i].hallBase = some b → s.axes[i].lastEdge = some d → s.pinchChecks i = true →
      ∃ t, exec (.hallPeriodTimeout i) s = .next t ∧ 2 * t.now > 2 * d + 3 * b ∧ s.now ≤ t.now ∧
        t.reverses s i t.now ∧ t.agrees { s with now := t.now, axes := t.axes }) ∧
    (∀ d n, s.axes[i].state = .reversing → s.axes[i].deadAt = some d → (s.axisConf i).backOff = n + 1 →
      ∃ t, exec (.reversalDeadTimeEnd i) s = .next t ∧
        t.agrees { s with now := max s.now d, axes := s.axes.set i { s.axes[i] with
          goal := some (.backOff (n + 1)), drive := some s.axes[i].lastDir.opp, lastDir := s.axes[i].lastDir.opp,
          driveSince := max s.now d, backLeft := n + 1, deadAt := none,
          stallAt := some (max s.now d + 1000 * (s.axisConf i).stallWindow) } }))

/-- STALL_TIMER_EXPIRY of a driven move of the host or the panel: HOME with a sample above the stall level ends in END_STOP, referenced
at 0 with the limits 40 and stroke - 40; a TARGET or a JOG ends in STALL above it, and at or below it in HALL_FAULT,
unreferenced (R52, R55, R58). The clock reaches the end of the stall window (log entry 1). -/
def Obligations.StallEndsMove : Prop :=
  ∀ (s : State) (i : Fin 8) (g : Goal) (d n : Nat), s.inReset = false → s.uport.isHeld = false →
    s.axes[i].state = .running → s.movesAlone i g → s.axes[i].stallAt = some d → s.axes[i].current = some n →
    (g = .home → (s.axisConf i).current < n →
      ∃ t, exec (.stallTimerExpiry i) s = .next t ∧ t.stopped s i .endStop (max s.now d) ∧
        t.axes[i].referenced = true ∧ t.axes[i].count = 0 ∧ t.axes[i].limitLo = 40 ∧
        t.axes[i].limitHi = (s.axisConf i).stroke - 40 ∧
        t.agrees { s with now := max s.now d, axes := t.axes, budget := t.budget }) ∧
    ((∃ p, g = .target p) ∨ (∃ e, g = .jog e) →
      ((s.axisConf i).current < n →
        ∃ t, exec (.stallTimerExpiry i) s = .next t ∧ t.stopped s i .stall (max s.now d) ∧
          t.axes[i].referenced = s.axes[i].referenced ∧ t.axes[i].count = s.axes[i].count ∧
          t.agrees { s with now := max s.now d, axes := t.axes, budget := t.budget }) ∧
      (n ≤ (s.axisConf i).current →
        ∃ t, exec (.stallTimerExpiry i) s = .next t ∧ t.stopped s i .hallFault (max s.now d) ∧
          t.axes[i].referenced = false ∧ t.axes[i].count = s.axes[i].count ∧
          t.agrees { s with now := max s.now d, axes := t.axes, budget := t.budget }))

/-- RESTORE_TIME_REACHED ends a restore move of time kind with REACHED, and in the same event, the end report, its leg is
ENDED with outcome DONE (R51, R172, R175); of the parking that follows nothing is said. The clock reaches the energised
time (log entry 1). -/
def Obligations.RestoreTimeEndsLeg : Prop :=
  ∀ (s : State) (i : Fin 8) (n : Nat) (d : Dir) (l : CrashLeg), s.inReset = false → s.uport.isHeld = false →
    s.axes[i].state = .running → s.axes[i].goal = some (.restoreTime n d) → s.axes[i].owed = some (.restoreTime n d) →
    s.axes[i].mover = some .restore → s.axes[i].pending = none → s.axes[i].grant = .held → s.budget.queue = [] →
    s.crash.state = .restoring → s.crash.kind = .restore → l ∈ s.crash.legs → l.axis = i → l.phase = .requested →
    ∃ t, exec (.restoreTimeReached i) s = .next t ∧ t.stopped s i .reached t.now ∧
      t.now = max s.now (s.axes[i].driveSince + (1000 * n - s.axes[i].energised)) ∧
      t.agrees { s with now := t.now, axes := t.axes, budget := t.budget, crash := { s.crash with
        legs := s.crash.legs.map (fun x => if x.axis = i ∧ x.phase = .requested
          then { x with phase := .ended, outcome := some .done } else x) } }

/-- COAST_WINDOW_END: PARKING, and the three shadow writes are offered: position, flags with the MOVING marker clear, check
word; a crash marker still owed stays owed. PARKING_WRITE_COMPLETE: with the last of the writes that a crash marker waits
for, its urgent write is offered, also where the axis has parked again (log entry 18); the last shadow write ends parking in
IDLE, or in BLOCKED after a thermal stop; a write of DUTY held meanwhile is offered again in that event and taken (R12, R55,
R56, R61, R62, R65, R70). The clock reaches the end of the window (log entry 1). -/
def Obligations.CoastAndParkingEnd : Prop :=
  (∀ (s : State) (i : Fin 8) (d : Nat), s.inReset = false → s.uport.isHeld = false → s.axes[i].coastAt = some d →
    ∃ t, exec (.coastWindowEnd i) s = .next t ∧
      (∀ pos flags : Word, pos = (if s.axes[i].referenced then toWord s.axes[i].count else 0xFFFF) →
        flags = (if s.axes[i].referenced then 2 else 0) →
        t.offered (writeCycle (.parking i) (regionAddr s.conf .axis (16 * i.val + 9)) pos false) ∧
        t.offered (writeCycle (.parking i) (regionAddr s.conf .axis (16 * i.val + 10)) flags false) ∧
        t.offered (writeCycle (.parking i) (regionAddr s.conf .axis (16 * i.val + 11))
          (checkWord 0x5E [pos, flags]) false)) ∧
      t.agrees { s with now := max s.now d, axes := s.axes.set i { s.axes[i] with
        state := .parking, coastAt := none, deadAt := none,
        parkLeft := s.axes[i].parkLeft + 3 } }) ∧
  (∀ (s : State) (c : Cycle) (w : Word) (i : Fin 8), s.inReset = false → s.uport.isHeld = false → s.onDport c w →
    c.purpose = .parking i → s.axes[i].state = .parking →
    (1 < s.axes[i].parkLeft → ∃ t, exec .parkingWriteComplete s = .next t ∧
      (1 ∈ s.axes[i].markerOwed → t.offered (writeCycle (.marker i) (regionAddr s.conf .axis (16 * i.val + 10))
        (if s.axes[i].referenced then 3 else 1) true)) ∧
      t.agrees { s with axes := s.axes.set i { s.axes[i] with
        parkLeft := s.axes[i].parkLeft - 1, markerOwed := s.axes[i].markersLeft } }) ∧
    (s.axes[i].parkLeft = 1 → s.axes[i].pending = none → (∀ m ∈ s.axes[i].parkOwed, m = .image ∨ m = .panel) →
      (s.axes[i].overheated = false → s.axes[i].crashInBlocked = false →
        ∃ t, exec .parkingWriteComplete s = .next t ∧
          t.agrees { s with axes := s.axes.set i { s.axes[i] with
            state := .idle, mover := none, goal := none, owed := none, parkOwed := [], parkLeft := 0,
            markerOwed := s.axes[i].markersLeft,
            idleEdge := false } }) ∧
      (s.axes[i].overheated = true → (s.axisConf i).thermalLimit / 2 < s.axes[i].thermal →
        ∃ t, exec .parkingWriteComplete s = .next t ∧
          t.agrees { s with axes := s.axes.set i { s.axes[i] with
            state := .blocked, mover := none, goal := none, owed := none, parkOwed := [], parkLeft := 0,
            markerOwed := s.axes[i].markersLeft,
            overheated := false, crashInBlocked := false, idleEdge := false } }))) ∧
  (∀ (s : State) (c : Cycle) (w v : Word) (i : Fin 8) (a : Addr) (d : Nat), s.inReset = false → s.onDport c w →
    c.purpose = .parking i → s.axes[i].state = .parking → s.axes[i].parkLeft = 1 → s.axes[i].pending = none →
    (∀ m ∈ s.axes[i].parkOwed, m = .image ∨ m = .panel) → s.axes[i].overheated = false →
    s.axes[i].crashInBlocked = false → s.uport = .held a v (.axDuty i) d → 20 ≤ v.toNat → v.toNat ≤ 100 →
    ∃ t, exec .parkingWriteComplete s = .next t ∧
      t.agreesButNeutrals { s with uport := .waiting (.write a v .none), axes := s.axes.set i { s.axes[i] with
        state := .idle, mover := none, goal := none, owed := none, parkOwed := [], parkLeft := 0,
            markerOwed := s.axes[i].markersLeft, idleEdge := false,
        duty := v.toNat } })

/-- THERMAL_RISE_TICK and THERMAL_FALL_TICK: the count of a driven axis rises by its class up to 65535, and a CRASH move goes on above the
limit, any other ends with THERMAL; a rise of 10 ms that is full as the drive goes off for the reversal dead time counts
too, and ends the pinched move with THERMAL. The count falls by 1 while above 0, and a BLOCKED axis goes to IDLE at half its limit
(R60, R61, R70). A rise of an axis that is neither driven nor in its reversal dead time is no event (log entry 2). -/
def Obligations.ThermalTicksCount : Prop :=
  ∀ (s : State) (i : Fin 8), s.inReset = false → s.uport.isHeld = false → (s.axisConf i).fitted = true →
    (s.axes[i].drive = none → s.axes[i].state ≠ .reversing →
      ∃ t, exec (.thermalRiseTick i) s = .next t ∧ t.agrees s) ∧
    (s.axes[i].drive = none → s.axes[i].state = .reversing → s.axes[i].grant = .held → s.axes[i].pending = none →
      s.budget.queue = [] → (s.axes[i].mover = some .image ∨ s.axes[i].mover = some .panel) →
      ∀ n, n = min 65535 (s.axes[i].thermal + (s.axisConf i).current) →
      (n < (s.axisConf i).thermalLimit → ∃ t, exec (.thermalRiseTick i) s = .next t ∧
        t.agrees { s with axes := s.axes.set i { s.axes[i] with thermal := n } }) ∧
      (∀ g, (s.axisConf i).thermalLimit ≤ n → s.axes[i].owed = some g →
        ∃ t, exec (.thermalRiseTick i) s = .next t ∧ t.stopped s i .thermal s.now ∧ t.axes[i].thermal = n ∧
          t.axes[i].overheated = true ∧ t.agrees { s with axes := t.axes, budget := t.budget })) ∧
    (s.axes[i].drive ≠ none → ∀ n, n = min 65535 (s.axes[i].thermal + (s.axisConf i).current) →
      (n < (s.axisConf i).thermalLimit → ∃ t, exec (.thermalRiseTick i) s = .next t ∧
        t.agrees { s with axes := s.axes.set i { s.axes[i] with thermal := n } }) ∧
      ((s.axisConf i).thermalLimit ≤ n → s.axes[i].mover = some .crash →
        ∃ t, exec (.thermalRiseTick i) s = .next t ∧
          t.agrees { s with axes := s.axes.set i { s.axes[i] with thermal := n, overheated := true } }) ∧
      (∀ g, (s.axisConf i).thermalLimit ≤ n → s.movesAlone i g →
        ∃ t, exec (.thermalRiseTick i) s = .next t ∧ t.stopped s i .thermal s.now ∧ t.axes[i].thermal = n ∧
          t.axes[i].overheated = true ∧ t.agrees { s with axes := t.axes, budget := t.budget })) ∧
    (s.axes[i].thermal = 0 → ∃ t, exec (.thermalFallTick i) s = .next t ∧ t.agrees s) ∧
    (0 < s.axes[i].thermal →
      (s.axes[i].state ≠ .blocked ∨ (s.axisConf i).thermalLimit / 2 < s.axes[i].thermal - 1 →
        ∃ t, exec (.thermalFallTick i) s = .next t ∧
          t.agrees { s with axes := s.axes.set i { s.axes[i] with thermal := s.axes[i].thermal - 1 } }) ∧
      (s.axes[i].state = .blocked → s.axes[i].thermal - 1 ≤ (s.axisConf i).thermalLimit / 2 →
        s.axes[i].pending = none →
        ∃ t, exec (.thermalFallTick i) s = .next t ∧
          t.agrees { s with axes := s.axes.set i { s.axes[i] with
            thermal := s.axes[i].thermal - 1, state := .idle, idleEdge := false } }))

/-! ## Load budget -/

/-- SUPPLY_SAMPLE: the third sample in a row below the threshold lowers the effective cap to the reduced cap, the tenth in a
row at the threshold + 5 or above returns it to the total cap; no load is shed where what is granted still fits. Where it no
longer fits, the newest entry of the lowest priority granted is shed, and no more once the rest fits: a zone or pump entry
waits again, the output off, the zone SHED or the filling chambers in FILL_WAIT; the entry of a running axis becomes NONE and
its move ends with SUPPLY_LOW (R81, R83 to R85, R126, R150). -/
def Obligations.SupplySagCounts : Prop :=
  ∀ (s : State) (v : Word), s.atWork → s.uport.isHeld = false → s.crash.state ≠ .pulling →
    (s.budget.sagging = false → s.conf.sagThreshold ≤ v.toNat →
      ∃ t, exec (.supplySample v) s = .next t ∧
        t.agrees { s with meas := { s.meas with supply := some v }, budget := { s.budget with sagCount := 0 } }) ∧
    (s.budget.sagging = false → v.toNat < s.conf.sagThreshold →
      (s.budget.sagCount < 2 → ∃ t, exec (.supplySample v) s = .next t ∧
        t.agrees { s with meas := { s.meas with supply := some v },
                          budget := { s.budget with sagCount := s.budget.sagCount + 1 } }) ∧
      (s.budget.sagCount = 2 → s.budget.queue = [] → s.budget.motorTotal ≤ s.conf.motorCap →
        s.budget.grantedTotal ≤ s.conf.reducedCap - s.budget.reservation →
        ∃ t, exec (.supplySample v) s = .next t ∧
          t.agrees { s with meas := { s.meas with supply := some v },
                            budget := { s.budget with sagging := true, sagCount := 0, recoveryCount := 0,
                                                      effective := s.conf.reducedCap } }) ∧
      (∀ (c : Fin 15) (p : Priority), s.budget.sagCount = 2 → s.budget.queue = [] →
        s.budget.motorTotal ≤ s.conf.motorCap → s.conf.reducedCap - s.budget.reservation < s.budget.grantedTotal →
        s.budget.grantedTotal ≤ s.conf.reducedCap - s.budget.reservation + s.budget.table[c].units →
        s.budget.table[c].state = .granted → s.budget.table[c].priority = some p →
        (∀ d : Fin 15, d ≠ c → s.budget.table[d].state = .granted → ∃ q, s.budget.table[d].priority = some q ∧
          (q.rank < p.rank ∨ (q = p ∧ s.budget.table[d].seq < s.budget.table[c].seq))) →
        (p = .heater ∨ p = .fan ∨ p = .pump →
          ∃ t, exec (.supplySample v) s = .next t ∧
            t.budget = { s.budget with
              sagging := true, sagCount := 0, recoveryCount := 0, effective := s.conf.reducedCap, queue := [c],
              table := s.budget.table.set c { s.budget.table[c] with state := .waiting, since := some s.now } } ∧
            t.agrees { s with meas := { s.meas with supply := some v }, budget := t.budget, zones := t.zones,
                              air := t.air } ∧
            (∀ z : Fin 6, c = zoneClaimant z → s.zones[z].state = .on → t.air = s.air ∧ t.zones[z].state = .shed ∧
              t.zoneDuty z = 0 ∧ t.zones[z].level = s.zones[z].level ∧
              ∀ y : Fin 6, y ≠ z → t.zones[y].state = s.zones[y].state ∧ t.zones[y].level = s.zones[y].level) ∧
            (c = pumpClaimant → t.zones = s.zones ∧ t.pumpOn = false ∧ t.air.granted = false ∧
              t.air.claim = s.air.claim ∧ ∀ n : Fin 12, t.air.chambers[n] =
                if s.air.chambers[n].state = .filling
                  then { s.air.chambers[n] with state := .fillWait, protective := false } else s.air.chambers[n])) ∧
        (∀ (i : Fin 8) (g : Goal), p = .motion → c = axisClaimant i → s.axes[i].state = .running →
          s.movesAlone i g → ∃ t, exec (.supplySample v) s = .next t ∧ t.stopped s i .supplyLow s.now ∧
            t.axes[i].count = s.axes[i].count ∧ t.budget.sagging = true ∧ t.budget.effective = s.conf.reducedCap ∧
            t.agrees { s with meas := { s.meas with supply := some v }, axes := t.axes, budget := t.budget }))) ∧
    (s.budget.sagging = true → v.toNat < s.conf.sagThreshold + 5 →
      ∃ t, exec (.supplySample v) s = .next t ∧
        t.agrees { s with meas := { s.meas with supply := some v }, budget := { s.budget with recoveryCount := 0 } }) ∧
    (s.budget.sagging = true → s.conf.sagThreshold + 5 ≤ v.toNat →
      (s.budget.recoveryCount < 9 → ∃ t, exec (.supplySample v) s = .next t ∧
        t.agrees { s with meas := { s.meas with supply := some v },
                          budget := { s.budget with recoveryCount := s.budget.recoveryCount + 1 } }) ∧
      (s.budget.recoveryCount = 9 → s.budget.queue = [] → ∃ t, exec (.supplySample v) s = .next t ∧
        t.agrees { s with meas := { s.meas with supply := some v },
                          budget := { s.budget with sagging := false, sagCount := 0, recoveryCount := 0,
                                                    effective := s.conf.totalCap } }))

/-- WAIT_LIMIT_EXPIRY of a waiting claim of 2 s of an IMAGE or a PANEL move: the claim is NONE, the move ends with NO_POWER, and the axis
parks (R50, R82). That NO_POWER is the last stop cause of a move ended from STARTING is the model's reading (log entry
25); the clock reaches the wait limit (log entry 1). -/
def Obligations.WaitLimitRefuses : Prop :=
  ∀ (s : State) (i : Fin 8) (g : Goal) (d : Nat), s.inReset = false → s.uport.isHeld = false →
    s.budget.table[axisClaimant i].state = .waiting → s.budget.table[axisClaimant i].since = some d →
    s.budget.table[axisClaimant i].wait = .limited2s → s.budget.queue = [axisClaimant i] →
    s.axes[i].state = .starting → s.axes[i].grant = .claimed → s.axes[i].goal = some g → s.axes[i].owed = some g →
    (s.axes[i].mover = some .image ∨ s.axes[i].mover = some .panel) →
    ∃ t, exec (.waitLimitExpiry (axisClaimant i)) s = .next t ∧ t.now = max s.now (d + 2000000) ∧
      t.axes[i].state = .parking ∧ t.axes[i].lastCause = some .noPower ∧ t.axes[i].grant = .none ∧
      t.axes[i].goal = none ∧ t.onlyAxis s i ∧ t.budget.table[axisClaimant i].state = .none ∧ t.budget.queue = [] ∧
      (∀ c : Fin 15, c ≠ axisClaimant i → t.budget.table[c] = s.budget.table[c]) ∧
      t.agrees { s with now := t.now, axes := t.axes, budget := t.budget }

/-- The grant pass never lets the granted total pass the grantable cap, nor the motor total the motor cap, while the crash controller
is not PULLING (R78, R79). -/
def Obligations.GrantPassKeepsCaps : Prop :=
  ∀ e : Ev, e.crash.state ≠ .pulling → e.budget.grantedTotal ≤ e.budget.grantable →
    e.budget.motorTotal ≤ e.conf.motorCap →
    (∀ c : Fin 15, e.budget.table[c].state = .granted → c ∉ e.budget.queue) →
    e.grantPass.budget.grantedTotal ≤ e.budget.grantable ∧ e.grantPass.budget.motorTotal ≤ e.conf.motorCap

/-! ## Recall and store engine -/

/-- PROFILE_CHECK_READ_COMPLETE: the words are gathered; the last one gives the entry what the check finds, unless the record was
written during the check. RECALL_READ_COMPLETE: the words are gathered; a record that no longer checks ends the recall REFUSED with cause
CHECK; one that checks gives the plan, in order of rank and axis, a leg above the stroke SKIPPED, and a planned leg of its
lowest rank sends its axis off. The parked report of the last leg ends the recall COMPLETE (R93, R94, R100 to R104). -/
def Obligations.EngineReadsGoOn : Prop :=
  (∀ (s : State) (c : Cycle) (w : Word) (r : CheckRun), s.inReset = false → s.uport.isHeld = false → s.onDport c w →
    c.purpose = .profileCheck → s.engine.check = some r →
    (r.words.length < 31 → ∃ t, exec .profileCheckReadComplete s = .next t ∧
      t.offered (readCycle .profileCheck (profileAddr s.conf r.profile (r.words.length + 1))) ∧
      t.agrees { s with engine := { s.engine with check := some { r with words := r.words ++ [w] } } }) ∧
    (r.words.length = 31 → r.void = false → s.engine.plan.queued = none →
      (∀ n : Fin 4, n ≠ r.profile → s.engine.profiles[n].mark ≠ .pending) →
      ∃ t, exec .profileCheckReadComplete s = .next t ∧
        t.agrees { s with engine := { s.engine with
          check := none,
          profiles := s.engine.profiles.set r.profile
            ⟨(checkRecord (r.words ++ [w])).1, (checkRecord (r.words ++ [w])).2, .none⟩ } })) ∧
  (∀ (s : State) (c : Cycle) (w : Word) (n : Fin 4), s.inReset = false → s.uport.isHeld = false → s.onDport c w →
    c.purpose = .recallRead → s.engine.plan.state = .reading → s.engine.plan.profile = some n →
    (s.engine.plan.copy.length < 31 → ∃ t, exec .recallReadComplete s = .next t ∧
      t.offered (readCycle .recallRead (profileAddr s.conf n (s.engine.plan.copy.length + 1))) ∧
      t.agrees { s with engine := { s.engine with plan := { s.engine.plan with copy := s.engine.plan.copy ++ [w] } } }) ∧
    (s.engine.plan.copy.length = 31 → (checkRecord (s.engine.plan.copy ++ [w])).1 ≠ .valid →
      (∀ k, s.engine.plan.origin = some (.panel k) → s.engine.plan.queued = none →
        ∃ t, exec .recallReadComplete s = .next t ∧
          t.agrees { s with engine := { s.engine with
            plan := { s.engine.plan with state := .done, reading := false, result := .refused,
                                         cause := some .check, copy := s.engine.plan.copy ++ [w] },
            profiles := s.engine.profiles.set n { s.engine.profiles[n] with
              state := (checkRecord (s.engine.plan.copy ++ [w])).1,
              count := (checkRecord (s.engine.plan.copy ++ [w])).2 } } }))) ∧
  (∀ (s : State) (ws : List Word),
    (∀ l : Leg, l ∈ s.buildPlan ws ↔ ws.getD (1 + l.axis.val) absent ≠ absent ∧ (s.axisConf l.axis).fitted = true ∧
      l.target = (ws.getD (1 + l.axis.val) absent).toNat ∧ l.rank.val = (s.axisConf l.axis).rank % 4 ∧
      (if (s.axisConf l.axis).stroke < l.target then l.phase = .finished ∧ l.outcome = some .skipped
        else l.phase = .planned ∧ l.outcome = none)) ∧
    (s.buildPlan ws).Pairwise (fun a b => a.rank < b.rank ∨ (a.rank = b.rank ∧ a.axis < b.axis))) ∧
  (∀ (s : State) (c : Cycle) (w : Word) (ws : List Word) (n : Fin 4) (i : Fin 8) (k : Fin 4) (p : Nat),
    s.inReset = false → s.uport.isHeld = false → s.onDport c w → c.purpose = .recallRead →
    s.engine.plan.state = .reading → s.engine.plan.profile = some n → ws = s.engine.plan.copy ++ [w] →
    ws.length = 32 → (checkRecord ws).1 = .valid → (∀ j, 9 ≤ j → j ≤ 27 → ws.getD j absent = absent) →
    s.buildPlan ws = [⟨i, p, k, .planned, none⟩] → s.axes[i].state = .idle → s.axes[i].pending = none →
    s.axes[i].referenced = true → p ≠ s.axes[i].count → s.axes[i].atLimit (.target p) (toward p s.axes[i].count) = false →
    s.crash.state ≠ .locked → (s.crash.state == .armed && s.crashAxis i) = false → s.claimFits (axisClaimant i) →
    s.budget.motorTotal + s.budget.table[axisClaimant i].units ≤ s.conf.motorCap →
    ∃ t, exec .recallReadComplete s = .next t ∧ t.budget.table[axisClaimant i].state = .granted ∧
      (∀ x : Fin 15, x ≠ axisClaimant i → t.budget.table[x] = s.budget.table[x]) ∧
      t.agrees { s with
        budget := t.budget,
        axes := s.axes.set i { s.axes[i] with
          state := .starting, goal := some (.target p), owed := some (.target p), mover := some .recall, grant := .held,
          idleEdge := false, markerDone := false, energised := 0, current := none, overheated := false,
          crashInBlocked := false },
        engine := { s.engine with plan := { s.engine.plan with
          state := .running k, reading := false, copy := ws, legs := [⟨i, p, k, .requested, none⟩] } } }) ∧
  (∀ (s : State) (c : Cycle) (w : Word) (i : Fin 8) (k : Fin 4) (p : Nat) (o : LegOutcome) (x : Fin 30),
    s.inReset = false → s.uport.isHeld = false → s.onDport c w → c.purpose = .parking i → s.axes[i].state = .parking →
    s.axes[i].parkLeft = 1 → s.axes[i].pending = none → s.axes[i].parkOwed = [.recall] →
    s.axes[i].overheated = false → s.axes[i].crashInBlocked = false → s.engine.plan.state = .running k →
    s.engine.plan.legs = [⟨i, p, k, .ended, some o⟩] → s.engine.plan.queued = none →
    s.engine.plan.origin = some (.panel x) →
    ∃ t, exec .parkingWriteComplete s = .next t ∧
      t.agrees { s with
        axes := s.axes.set i { s.axes[i] with
          state := .idle, mover := none, goal := none, owed := none, parkOwed := [], parkLeft := 0, idleEdge := false },
        engine := { s.engine with plan := { s.engine.plan with
          state := .done, result := .complete, cause := none, legs := [⟨i, p, k, .finished, some o⟩] } } })

/-- STORE_WRITE_COMPLETE: the next write is offered; after the last the entry is VALID with the new store count (R97). SLOT_NEUTRAL_WRITE_COMPLETE
clears the request mark of the slot whose request is over (R107; that the mark of a later request stands is the model's
reading, log entry 13). -/
def Obligations.StoreWritesAndMarks : Prop :=
  (∀ (s : State) (c : Cycle) (w : Word) (r : StoreRun), s.inReset = false → s.uport.isHeld = false → s.onDport c w →
    c.purpose = .storeWrite → s.engine.store = some r →
    (r.done < 32 → ∃ t, exec .storeWriteComplete s = .next t ∧
      t.offered (writeCycle .storeWrite
        (profileAddr s.conf r.profile (if r.done = 31 then 0 else r.done + 1)) (r.writes.getD (r.done + 1) 0) false) ∧
      t.agrees { s with engine := { s.engine with store := some { r with done := r.done + 1 } } }) ∧
    (r.done = 32 → r.fromSlot = false → s.engine.plan.queued = none → ∃ t, exec .storeWriteComplete s = .next t ∧
      t.agrees { s with engine := { s.engine with
        store := none,
        profiles := s.engine.profiles.set r.profile
          { s.engine.profiles[r.profile] with state := .valid, count := r.newCount } } })) ∧
  (∀ (s : State) (c : Cycle) (w : Word) (m : RequestMark), s.inReset = false → s.uport.isHeld = false → s.onDport c w →
    (c.purpose = .seatNeutral false → s.engine.recallMark = some m → ∃ t, exec .slotNeutralWriteComplete s = .next t ∧
      t.agrees { s with engine := { s.engine with recallMark := if m.ended then none else some m } }) ∧
    (c.purpose = .seatNeutral true → s.engine.storeMark = some m → ∃ t, exec .slotNeutralWriteComplete s = .next t ∧
      t.agrees { s with engine := { s.engine with storeMark := if m.ended then none else some m } }))

/-! ## Panel -/

/-- LINE_SAMPLE: the run of a key seen as it is falls to 0, of one seen otherwise rises by 1, up to its key change; the next
line becomes active at the end of the dwell. A sample that changes one key: a key that goes DOWN joins the key-down set, in
NORMAL pressed with its hold timer started, while DISABLED with its press mark clear; a function NONE closes the store window
alone; a JOG of an idle axis whose claim fits sets the axis off for the panel, its marker offered. The sole member goes UP:
the set is empty, and the RELEASE of a JOG ends the move of the panel. A third key DOWN sets the ambiguity mark and empties
the set, and the last key UP clears the mark. (That conflict marks clear before a key goes DOWN is the model's order, log
entry 33.) KEY_HOLD_TIMER_EXPIRY dispatches HOLD once for a key that is no lumbar key; STORE_WINDOW_EXPIRY closes the store
window (R110 to R118). The three reach their time on the clock (log entry 1). -/
def Obligations.PanelEventsComplete : Prop :=
  (∀ (s : State) (closed : BitVec 6), s.inReset = false → s.uport.isHeld = false →
    (s.lineSteady closed none → ∃ t, exec (.lineSample closed) s = .next t ∧ t.lineSampled s closed none ∧
      t.agrees { s with now := t.now, panel := s.scannedAs t }) ∧
    (∀ k : Fin 30, s.keyChanging closed k →
      (s.panel.keys[k].down = false → s.downCount < 2 → s.panel.ambiguous = false →
        (s.panel.shown ≠ .normal →
          ∃ t, exec (.lineSample closed) s = .next t ∧ t.lineSampled s closed (some k) ∧
            (∀ i : Fin 8, t.panel.conflict[i] = (s.panel.conflict[i] && s.jogMember i)) ∧
            t.agrees { s with now := t.now, panel := { s.scannedAs t with
              members := s.panel.members ++ [⟨k, false, none, false⟩], conflict := t.panel.conflict } }) ∧
        (s.panel.shown = .normal → s.keyFn k = .none →
          ∃ t, exec (.lineSample closed) s = .next t ∧ t.lineSampled s closed (some k) ∧
            (∀ i : Fin 8, t.panel.conflict[i] = (s.panel.conflict[i] && s.jogMember i)) ∧
            t.agrees { s with now := t.now, panel := { s.scannedAs t with
              members := s.panel.members ++ [⟨k, true, some (t.now + 1000 * s.conf.longPress), false⟩],
              storeWindow := none, conflict := t.panel.conflict } }) ∧
        (∀ (i : Fin 8) (d : Dir), s.panel.shown = .normal → s.panel.members = [] → s.keyFn k = .jog i d →
          (s.axisConf i).fitted = true → s.recallAbortable = false → s.axes[i].state = .idle →
          s.axes[i].pending = none → s.crash.state ≠ .locked → (s.crash.state == .armed && s.crashAxis i) = false →
          s.axes[i].atLimit (.jog d) d = false → s.claimFits (axisClaimant i) →
          s.budget.motorTotal + s.budget.table[axisClaimant i].units ≤ s.conf.motorCap →
          ∃ t, exec (.lineSample closed) s = .next t ∧ t.lineSampled s closed (some k) ∧
            t.offered (writeCycle (.marker i) (regionAddr s.conf .axis (16 * i.val + 10))
              (s.axes[i].shadowFlags true) false) ∧
            t.budget.table[axisClaimant i].state = .granted ∧
            t.budget.table[axisClaimant i].priority = some .motion ∧
            t.budget.table[axisClaimant i].wait = .limited2s ∧
            (∀ c : Fin 15, c ≠ axisClaimant i → t.budget.table[c] = s.budget.table[c]) ∧
            t.agrees { s with
              now := t.now, budget := t.budget,
              axes := s.axes.set i { s.axes[i] with
                state := .starting, goal := some (.jog d), owed := some (.jog d), mover := some .panel, grant := .held,
                idleEdge := false, markerDone := false, energised := 0, current := none, overheated := false,
                crashInBlocked := false },
              panel := { s.scannedAs t with
                members := [⟨k, true, some (t.now + 1000 * s.conf.longPress), false⟩], storeWindow := none,
                conflict := Vector.replicate 8 false } })) ∧
      (s.panel.keys[k].down = true → s.downCount ≤ 3 → s.panelNormal →
        ∀ h held, s.panel.members = [⟨k, true, h, held⟩] →
        ((∀ i d, s.keyFn k ≠ .jog i d) → (∀ n, s.keyFn k ≠ .memory n) →
          ∃ t, exec (.lineSample closed) s = .next t ∧ t.lineSampled s closed (some k) ∧
            t.agrees { s with now := t.now, panel := { s.scannedAs t with
              members := [], conflict := Vector.replicate 8 false } }) ∧
        (∀ (i : Fin 8) (d : Dir) (g : Goal), s.keyFn k = .jog i d → (s.axisConf i).fitted = true →
          s.axes[i].state = .running → s.movesAlone i g → s.axes[i].mover = some .panel →
          ∃ t, exec (.lineSample closed) s = .next t ∧ t.lineSampled s closed (some k) ∧
            t.stopped s i .stopRequest t.now ∧
            t.agrees { s with now := t.now, axes := t.axes, budget := t.budget, panel := { s.scannedAs t with
              members := [], conflict := Vector.replicate 8 false } })) ∧
      (s.panel.keys[k].down = false → s.downCount = 2 → s.panelNormal →
        (∀ i : Fin 8, s.axes[i].mover ≠ some .panel ∧ ∀ r, s.axes[i].pending = some r → r.mover ≠ .panel) →
        (∀ m ∈ s.panel.members, ∀ n, s.keyFn m.key ≠ .memory n) →
        ∃ t, exec (.lineSample closed) s = .next t ∧ t.lineSampled s closed (some k) ∧
          t.agrees { s with now := t.now, panel := { s.scannedAs t with
            members := [], ambiguous := true, shown := .ambiguous, storeWindow := none,
            conflict := Vector.replicate 8 false } }) ∧
      (s.panel.keys[k].down = true → s.downCount = 1 → s.panel.ambiguous = true → s.panel.shown ≠ .normal →
        s.panel.members = [] →
        ∃ t, exec (.lineSample closed) s = .next t ∧ t.lineSampled s closed (some k) ∧
          t.panel.shown = (if s.disableCondition then .disabled else .normal) ∧
          t.agrees { s with now := t.now, panel := { s.scannedAs t with
            ambiguous := false, shown := t.panel.shown, conflict := Vector.replicate 8 false } }))) ∧
  ((∀ (s : State) (k : Fin 30) (d : Nat) (f : KeyFunction), s.inReset = false → s.uport.isHeld = false →
    s.panel.members = [⟨k, true, some d, false⟩] → s.keyFn k = f → (∀ up, f ≠ .lumbar up) →
    ∃ t, exec (.keyHoldTimerExpiry k) s = .next t ∧
      t.agrees { s with now := max s.now d, panel := { s.panel with members := [⟨k, true, none, true⟩] } }) ∧
  (∀ (s : State) (d : Nat), s.inReset = false → s.uport.isHeld = false → s.panel.storeWindow = some d →
    ∃ t, exec .storeWindowExpiry s = .next t ∧
      t.agrees { s with now := max s.now d, panel := { s.panel with storeWindow := none } }))

/-! ## Chambers and massage -/

/-- PRESSURE_SAMPLE and PUMP_CURRENT_SAMPLE: a sample in FILL_WAIT is only kept, but for the first one after the maximum was
lowered, which above the new maximum has the chamber vent toward its target, and where no other needs the pump its claim is
released; a filling chamber of owner POSTURE that reaches its target or its maximum is SEALED, its slot request over with
its neutral write, and where no other needs the pump the pump is off and its claim released; below both, 10 ms are counted
toward the fill time; a vent ends at its target; a sealed chamber above its maximum vents to protect itself; a pump sample
is only kept while the pump is off, one at or below twice the pump current clears the overload count, one above it raises
the count below 2, and the third in a row abandons every fill of the posture: each such chamber is SEALED with its pressure
as target, and the pump's claim is released (R126 to R129, R131, R133, R145). That to regulate down is to settle to the
present target is the model's reading (log entry 42). That the fill time of an abandoned posture fill returns to 0, and that
a chamber of owner CRASH opens its protective vent in HOLDING too, is the model's choice (log entry 35). -/
def Obligations.ChamberSamples : Prop :=
  (∀ (s : State) (c : Fin 12) (v : Word) (x : Chamber), s.atWork → s.uport.isHeld = false →
    (s.chamberConf c).fitted = true → x = { s.air.chambers[c] with sample := some v.toNat, lowered := false } →
    (s.air.chambers[c].state = .fillWait →
      (s.air.chambers[c].lowered = false ∨ v.toNat ≤ (s.chamberConf c).maxPressure) →
      ∃ t, exec (.pressureSample c v) s = .next t ∧
        t.agrees { s with air := { s.air with chambers := s.air.chambers.set c x } }) ∧
    (∀ g, s.air.chambers[c].state = .fillWait → s.air.chambers[c].lowered = true →
      (s.chamberConf c).maxPressure < v.toNat → s.air.chambers[c].target = some g → g ≤ (s.chamberConf c).maxPressure →
      s.air.chambers[c].fillOnly = false → s.crashGuard = false →
      (∀ d : Fin 12, d ≠ c → s.air.chambers[d].needsPump = false) → s.air.claim ≠ none →
      (∀ y ∈ s.budget.queue, y = pumpClaimant) →
      ∃ t, exec (.pressureSample c v) s = .next t ∧ t.valves c = (false, true) ∧
        t.budget.table[pumpClaimant].state = .none ∧
        (∀ y : Fin 15, y ≠ pumpClaimant → t.budget.table[y] = s.budget.table[y]) ∧
        t.agrees { s with budget := t.budget, air := { s.air with
          chambers := s.air.chambers.set c { x with state := .venting, protective := false, settlePending := false },
          claim := none, granted := false, overload := 0 } }) ∧
    (∀ g, s.air.chambers[c].state = .filling → s.air.chambers[c].owner = .posture →
      s.air.chambers[c].target = some g →
      (g ≤ v.toNat ∨ (s.chamberConf c).maxPressure ≤ v.toNat →
        (∀ d : Fin 12, d ≠ c → s.air.chambers[d].needsPump = false) → s.air.claim ≠ none → s.budget.queue = [] →
        ∃ t, exec (.pressureSample c v) s = .next t ∧ t.pumpOn = false ∧
          t.budget.table[pumpClaimant].state = .none ∧
          (∀ y : Fin 15, y ≠ pumpClaimant → t.budget.table[y] = s.budget.table[y]) ∧
          (s.air.chambers[c].slotRequest = true → t.offered (writeCycle (.chamberNeutral c)
            (slotAddr s.conf (.airTarget c)) (s.neutralValue (.airTarget c)) false)) ∧
          t.agrees { s with budget := t.budget, air := { s.air with
            chambers := s.air.chambers.set c { x with
              state := .sealed, protective := false, fillTime := 0, slotRequest := false },
            claim := none, granted := false, overload := 0 } }) ∧
      (v.toNat < g → v.toNat < (s.chamberConf c).maxPressure → s.air.chambers[c].fillTime + 10 < 30000 →
        ∃ t, exec (.pressureSample c v) s = .next t ∧
          t.agrees { s with air := { s.air with chambers := s.air.chambers.set c { x with
            fillTime := s.air.chambers[c].fillTime + 10 } } })) ∧
    (s.air.chambers[c].state = .venting → s.air.chambers[c].protective = false → s.air.chambers[c].owner = .posture →
      s.air.chambers[c].slotRequest = false → s.pumpAtRest → (∀ g, s.air.chambers[c].target = some g → v.toNat ≤ g) →
      s.air.chambers[c].target ≠ none →
      ∃ t, exec (.pressureSample c v) s = .next t ∧
        t.agrees { s with air := { s.air with chambers := s.air.chambers.set c { x with
          state := .sealed, fillTime := 0 } } }) ∧
    (s.air.chambers[c].state = .sealed → s.crash.state ≠ .locked → (s.chamberConf c).maxPressure < v.toNat →
      ∃ t, exec (.pressureSample c v) s = .next t ∧
        t.agrees { s with air := { s.air with chambers := s.air.chambers.set c { x with
          state := .venting, protective := true } } })) ∧
  (∀ (s : State) (v : Word), s.inReset = false → s.uport.isHeld = false →
    (s.pumpOn = false → ∃ t, exec (.pumpCurrentSample v) s = .next t ∧
      t.agrees { s with meas := { s.meas with pump := some v } }) ∧
    (s.pumpOn = true → v.toNat ≤ 2 * s.conf.pumpCurrent → ∃ t, exec (.pumpCurrentSample v) s = .next t ∧
      t.agrees { s with meas := { s.meas with pump := some v }, air := { s.air with overload := 0 } }) ∧
    (s.pumpOn = true → 2 * s.conf.pumpCurrent < v.toNat → s.air.overload < 2 →
      ∃ t, exec (.pumpCurrentSample v) s = .next t ∧
        t.agrees { s with meas := { s.meas with pump := some v },
                          air := { s.air with overload := s.air.overload + 1 } }) ∧
    (s.pumpOn = true → 2 * s.conf.pumpCurrent < v.toNat → s.air.overload = 2 → s.budget.queue = [] →
      (∀ c : Fin 12, s.air.chambers[c].needsPump = true → s.air.chambers[c].owner = .posture) →
      ∃ t, exec (.pumpCurrentSample v) s = .next t ∧ t.pumpOn = false ∧
        t.budget.table[pumpClaimant].state = .none ∧
        (∀ y : Fin 15, y ≠ pumpClaimant → t.budget.table[y] = s.budget.table[y]) ∧
        (∀ c : Fin 12,
          (s.air.chambers[c].needsPump = true → t.air.chambers[c] = { s.air.chambers[c] with
            state := .sealed, protective := false, target := some s.air.chambers[c].pressure, fillTime := 0,
            slotRequest := false }) ∧
          (s.air.chambers[c].needsPump = false → t.air.chambers[c] = s.air.chambers[c])) ∧
        t.agrees { s with meas := { s.meas with pump := some v }, budget := t.budget,
                          air := { s.air with chambers := t.air.chambers, claim := none, granted := false,
                                              overload := 0 } }))

/-- PATTERN_FETCH_READ_COMPLETE: the words are gathered while the step count of the header is 1 to 20; one of 0 or above 20 ends the
fetch in OFF. MASSAGE_PHASE_TIMER_EXPIRY: RISE gives way to HOLD for the hold time of the step, its moving chambers sealed where they stand
(a hold time of 0 waits for its own row, log entry 21); HOLD to FALL, in which a MASSAGE chamber vents to 0; after FALL the
next step begins, and after the last step the next pass, or massage ends; the passes stop at 255 (log entry 35). MASSAGE_SESSION_EXPIRY with no chamber of owner
MASSAGE left: OFF. MASSAGE_MIRROR_WRITE_COMPLETE that shows the present value ends the mirroring, and that value is the one memory is known to hold (log
entry 22). The expiries reach their time on the clock (log entry 1) (R134, R135, R139 to R141). -/
def Obligations.MassageEventsComplete : Prop :=
  (∀ (s : State) (c : Cycle) (w : Word) (p : Fin 8) (n : Nat), s.inReset = false → s.uport.isHeld = false →
    s.onDport c w → c.purpose = .patternFetch → s.air.massage.state = .fetching → s.air.massage.pattern = some p →
    n = patternSteps (s.air.massage.buffer ++ [w]) →
    (1 ≤ n → n ≤ 20 → s.air.massage.buffer.length < 4 * n →
      ∃ t, exec .patternFetchReadComplete s = .next t ∧
        t.offered (readCycle .patternFetch
          (regionAddr s.conf .air (64 + 96 * p.val + (s.air.massage.buffer.length + 1)))) ∧
        t.agrees { s with air := { s.air with massage := { s.air.massage with
          buffer := s.air.massage.buffer ++ [w] } } }) ∧
    (n = 0 ∨ 20 < n →
      ∃ t, exec .patternFetchReadComplete s = .next t ∧ t.air.massage.state = .off ∧
        t.agrees { s with air := { s.air with massage := t.air.massage } })) ∧
  (∀ s : State, s.inReset = false → s.uport.isHeld = false →
    (∀ d, s.air.massage.state = .running → s.air.massage.phase = some .rise → s.air.massage.phaseAt = some d →
      s.stepChambers = [] → ∃ t, exec .massagePhaseTimerExpiry s = .next t ∧
        t.agrees { s with now := max s.now d, air := { s.air with massage := { s.air.massage with
          phase := some .hold, riseLeft := [],
          phaseAt := some (max s.now d +
            100000 * hi (stepWord s.air.massage.buffer s.air.massage.step 2)) } } }) ∧
    (∀ d, s.air.massage.state = .running → s.air.massage.sessionAt = some d →
      (∀ c : Fin 12, s.air.chambers[c].owner ≠ .massage) →
      ∃ t, exec .massageSessionExpiry s = .next t ∧ t.air.massage.state = .off ∧ t.air.massage.sessionAt = none ∧
        t.air.massage.phaseAt = none ∧
        t.agrees { s with now := max s.now d, air := { s.air with massage := t.air.massage } }) ∧
    (∀ (c : Cycle) (w v : Word), s.onDport c w → c.purpose = .massageMirror → s.air.massage.mirrorNow = some v →
      s.mirrorValue = v → ∃ t, exec .massageMirrorWriteComplete s = .next t ∧
        t.agrees { s with air := { s.air with massage := { s.air.massage with mirrorNow := none, mirrorKnown := v } } })) ∧
  (∀ (s : State) (d : Nat), s.inReset = false → s.uport.isHeld = false → s.air.massage.state = .running →
    s.air.massage.phaseAt = some d →
    (s.air.massage.phase = some .rise → ∃ t, exec .massagePhaseTimerExpiry s = .next t ∧ t.now = max s.now d ∧
      t.air.massage = { s.air.massage with
        phase := some .hold, riseLeft := [],
        phaseAt := some (t.now + 100000 * hi (stepWord s.air.massage.buffer s.air.massage.step 2)) } ∧
      ∀ c ∈ s.stepChambers, s.air.chambers[c].moving = true → t.air.chambers[c].state = .sealed) ∧
    (∀ (c : Fin 12) (n : Nat), s.air.massage.phase = some .hold →
      n = lo (stepWord s.air.massage.buffer s.air.massage.step 2) → n ≠ 0 → s.stepChambers = [c] →
      s.air.chambers[c].borrowed = false → s.pumpAtRest → ∃ t, exec .massagePhaseTimerExpiry s = .next t ∧
        t.agrees { s with now := max s.now d, air := { s.air with
          massage := { s.air.massage with phase := some .fall, phaseAt := some (max s.now d + 100000 * n) },
          chambers := s.air.chambers.set c { s.air.chambers[c] with
            state := .venting, target := some 0, protective := false } } }) ∧
    (s.air.massage.phase = some .fall →
      (s.air.massage.step + 1 < patternSteps s.air.massage.buffer →
        ∃ t, exec .massagePhaseTimerExpiry s = .next t ∧ t.air.massage.state = .running ∧
          t.air.massage.step = s.air.massage.step + 1 ∧ t.air.massage.passes = s.air.massage.passes) ∧
      (patternSteps s.air.massage.buffer ≤ s.air.massage.step + 1 →
        ∀ k n, k = hi (s.air.massage.buffer.getD 0 0) → n = min 255 (s.air.massage.passes + 1) →
        (k = 0 ∨ n < k → ∃ t, exec .massagePhaseTimerExpiry s = .next t ∧ t.air.massage.state = .running ∧
          t.air.massage.step = 0 ∧ t.air.massage.passes = n) ∧
        (k ≠ 0 → k ≤ n → (∀ c : Fin 12, s.air.chambers[c].owner ≠ .massage) →
          ∃ t, exec .massagePhaseTimerExpiry s = .next t ∧ t.air.massage.state = .off ∧
            t.air.massage.sessionAt = none ∧ t.air.massage.phaseAt = none))))

/-! ## Climate -/

/-- CLIMATE_ARRIVAL: a fan that is off keeps its period; a heater's temperature is its code less the offset, times ten, by the gain,
held between -400 and 1500; a heater more than 10 below its level target claims, and is switched on when the claim fits.
STEP_DOWN_EXPIRY, which the clock reaches (log entry 1), takes the level from 3 to 2 and offers the mirror write; LEVEL_MIRROR_WRITE_COMPLETE of the present level ends the mirroring (R147,
R148, R150, R153, R154, R157). -/
def Obligations.ClimateEventsComplete : Prop :=
  (∀ (s : State) (z : Fin 6), s.atWork → s.uport.isHeld = false → (s.zoneConf z).fitted = true →
    s.zones[z].state = .off → s.zones[z].ack = none → s.zones[z].onThrough = false →
    (∀ p, 4 ≤ z.val → ∃ t, exec (.climateArrival z (.fan p)) s = .next t ∧ t.zones[z].period = p ∧
      t.zones[z].state = .off ∧ t.zones[z].level = s.zones[z].level ∧ t.zones[z].present = 0 ∧
      (∀ y : Fin 6, y ≠ z → t.zones[y] = s.zones[y]) ∧ t.agrees { s with zones := t.zones }) ∧
    (∀ (code current : Word) (temp : Int), z.val < 4 → 1000 ≤ code.toNat → code.toNat ≤ 64000 →
      temp = clampInt (-400) 1500 ((((code.toNat : Int) - ((s.zoneConf z).ntcOffset : Int)) * 10).tdiv
        ((s.zoneConf z).ntcGain : Int)) →
      temp ≤ ((s.zoneConf z).overTemp : Int) →
      (s.zones[z].level = 0 → ∃ t, exec (.climateArrival z (.heater code current)) s = .next t ∧
        t.zones[z].temperature = some temp ∧ t.zones[z].state = .off ∧ t.zoneDuty z = 0 ∧
        (∀ y : Fin 6, y ≠ z → t.zones[y] = s.zones[y]) ∧ t.agrees { s with zones := t.zones, meas := t.meas }) ∧
      (s.zones[z].level ≠ 0 → temp < (ZoneConf.target (s.zoneConf z) s.zones[z].level : Int) - 10 →
        s.claimFits (zoneClaimant z) →
        ∃ t, exec (.climateArrival z (.heater code current)) s = .next t ∧
          t.zones[z].temperature = some temp ∧ t.zones[z].state = .on ∧ t.zones[z].onThrough = true ∧
          t.zoneDuty z = 100 ∧ t.zones[z].level = s.zones[z].level ∧
          t.budget.table[zoneClaimant z].state = .granted ∧ t.budget.table[zoneClaimant z].priority = some .heater ∧
          t.agrees { s with zones := t.zones, meas := t.meas, budget := t.budget }))) ∧
  (∀ (s : State) (z : Fin 6), s.inReset = false → s.uport.isHeld = false →
    (∀ d, s.zones[z].stepSince = some d → s.zones[z].mirrorNow = none → s.zones[z].ack = none →
      ∃ t, exec (.stepDownExpiry z) s = .next t ∧
        t.offered (writeCycle (.levelMirror z) (slotAddr s.conf (.level z)) 2 false) ∧
        t.agrees { s with now := max s.now (d + (s.zoneConf z).stepDown * 60000000),
                          zones := s.zones.set z { s.zones[z] with
                            level := 2, stepSince := none, mirrorNow := some 2 } }) ∧
    (∀ (c : Cycle) (w : Word), s.onDport c w → c.purpose = .levelMirror z →
      s.zones[z].mirrorNow = some s.zones[z].level →
      ∃ t, exec .levelMirrorWriteComplete s = .next t ∧
        t.agrees { s with zones := s.zones.set z { s.zones[z] with mirrorNow := none } }))

/-! ## Crash controller -/

/-- ARM, RELEASE in ARMED and ARM_HOLD_TIMER_EXPIRY with nothing moving: ARMED takes the reservation of the crash loads and starts its
timer, a further ARM starts it again, and both ends of ARMED give the reservation up (R86, R169). The clock reaches the end of
the arm hold (log entry 1). -/
def Obligations.ArmedKeepsReservation : Prop :=
  ∀ s : State, s.inReset = false → s.uport.isHeld = false →
    (s.link.state = .waitSync → s.link.ready = true →
      (s.crash.state = .idle → s.atRest → ∃ t, exec .arm s = .next t ∧
        t.agrees { s with
          link := s.link.afterFrame s.now, budget := { s.budget with reservation := crashLoads s.conf },
          crash := { s.crash with state := .armed, armAt := some (s.now + 100000 * s.conf.armHold) } }) ∧
      (s.crash.state = .armed → ∃ t, exec .arm s = .next t ∧
        t.agrees { s with link := s.link.afterFrame s.now,
                          crash := { s.crash with armAt := some (s.now + 100000 * s.conf.armHold) } }) ∧
      (s.crash.state = .armed → s.budget.queue = [] → ∃ t, exec .release s = .next t ∧
        t.agrees { s with link := s.link.afterFrame s.now, budget := { s.budget with reservation := 0 },
                          crash := { s.crash with state := .idle, armAt := none } })) ∧
    (∀ d, s.crash.state = .armed → s.crash.armAt = some d → s.budget.queue = [] →
      ∃ t, exec .armHoldTimerExpiry s = .next t ∧
        t.agrees { s with now := max s.now d, budget := { s.budget with reservation := 0 },
                          crash := { s.crash with state := .idle, armAt := none } })

/-- PULL with nothing moving and one crash-role axis, referenced and not yet at its crash target: PULLING, the position is in the
snapshot, the axis drives toward its target at 100 % under a CRASH grant, and the crash hold begins (R70, R87, R170,
R171). -/
def Obligations.PullDrivesCrashAxis : Prop :=
  ∀ (s : State) (severity : Byte) (i : Fin 8), s.inReset = false → s.uport = .idle → s.link.state = .waitSync →
    s.link.ready = true → (s.crash.state = .idle ∨ s.crash.state = .armed) → s.cfg.state = .active → s.atRest →
    s.air.massage.mirrorNow = none → s.crashAxis i = true → (∀ j : Fin 8, j ≠ i → s.crashAxis j = false) →
    (∀ c : Fin 12, s.crashChamber c = false) → s.axes[i].referenced = true →
    s.axes[i].count ≠ (s.axisConf i).crashTarget →
    ∃ t, exec (.pull severity) s = .next t ∧ t.crash.state = .pulling ∧
      t.crash.snapAxes[i] = some (.position s.axes[i].count) ∧
      t.crash.pullAt = some (s.now + 10000 * s.conf.pullLimit) ∧ t.axes[i].state = .running ∧
      t.axes[i].mover = some .crash ∧ t.axes[i].drive = some (toward (s.axisConf i).crashTarget s.axes[i].count) ∧
      t.axes[i].driveDuty = 100 ∧ t.budget.table[axisClaimant i].state = .granted ∧
      t.budget.table[axisClaimant i].priority = some .crash ∧ t.budget.crashHold = true ∧
      t.budget.reservation = 0 ∧ t.onlyAxis s i ∧ t.zones = s.zones ∧ t.cfg = s.cfg ∧ t.mem = s.mem

/-- PULL_TIMER_EXPIRY in PULLING: a crash leg still requested ends with CRASH_TIME, FAILED for a position leg and DONE for a
time leg, whose energised time the snapshot takes, and its axis coasts; a crash chamber still moving is sealed where it
stands; HOLDING begins with its timer. CRASH_HOLD_TIMER_EXPIRY: the crash hold ends and RESTORING sends an axis of the
snapshot back to its position. That expiry, or RELEASE in HOLDING, with an empty snapshot: there is nothing to restore, and
the controller is in IDLE (R70, R88, R89, R143, R172 to R175). That an energised time, or the time from the PULL, is taken in
whole milliseconds with the rest dropped is the model's reading (log entry 31). The expiries reach their time on the clock
(log entry 1). -/
def Obligations.HoldingBeginsAndEnds : Prop :=
  (∀ (s : State) (d n : Nat), s.inReset = false → s.uport.isHeld = false → s.crash.state = .pulling →
    s.crash.pullAt = some d → n = max s.now d →
    (∀ (i : Fin 8) (l : CrashLeg) (g : Goal) (e : Dir), s.crash.kind = .pull → s.crash.legs = [l] → l.axis = i →
      l.phase = .requested → s.axes[i].state = .running → s.axes[i].mover = some .crash → s.axes[i].goal = some g →
      s.axes[i].owed = some g → s.axes[i].pending = none → s.axes[i].grant = .held → s.axes[i].drive ≠ none →
      s.budget.queue = [] → s.pumpAtRest →
      (∀ c : Fin 15, c ≠ axisClaimant i → s.budget.table[c].priority ≠ some .crash) →
      (∀ c : Fin 12, s.air.chambers[c].owner ≠ .crash) →
      (l.position = true ∧ (∃ p, s.crash.snapAxes[i] = some (.position p))) ∨
        (l.position = false ∧ s.crash.snapAxes[i] = some (.time 0 e)) →
      ∃ t, exec .pullTimerExpiry s = .next t ∧ t.stopped s i .crashTime n ∧
        t.agrees { s with
          now := n, axes := t.axes, budget := t.budget, crash := { s.crash with
            state := .holding, pullAt := none, holdAt := some (n + 1000000 * s.conf.crashHold),
            legs := [{ l with phase := .ended, outcome := some (if l.position then .failed else .done) }],
            snapAxes := if l.position then s.crash.snapAxes else s.crash.snapAxes.set i (some (.time
              (if l.droveOn then (n - s.crash.pullTime) / 1000
                else (s.axes[i].energised + (n - s.axes[i].driveSince)) / 1000) e)) } }) ∧
    (∀ c : Fin 12, (∀ l ∈ s.crash.legs, l.phase ≠ .requested) → s.air.chambers[c].owner = .crash →
      s.air.chambers[c].moving = true →
      ∃ t, exec .pullTimerExpiry s = .next t ∧ t.crash.state = .holding ∧ t.crash.pullAt = none ∧
        t.crash.holdAt = some (n + 1000000 * s.conf.crashHold) ∧ t.air.chambers[c].state = .sealed ∧
        t.air.chambers[c].owner = .crash ∧ t.air.chambers[c].target = s.air.chambers[c].target)) ∧
  (∀ s : State, s.inReset = false → s.uport.isHeld = false → s.atRest → s.crash.state = .holding →
    s.panel.shown = .disabled → s.crash.pullAt = none →
    (∀ (d p n : Nat) (i : Fin 8), s.crash.holdAt = some d → n = max s.now d → s.crash.snapAxes[i] = some (.position p) →
      (∀ j : Fin 8, j ≠ i → s.crash.snapAxes[j] = none) → (s.axisConf i).fitted = true → s.axes[i].referenced = true →
      p ≠ s.axes[i].count → s.axes[i].atLimit (.restoreTo p) (toward p s.axes[i].count) = false →
      s.budget.table[axisClaimant i].units ≤ s.budget.grantable →
      s.budget.table[axisClaimant i].units ≤ s.conf.motorCap →
      ∃ t, exec .crashHoldTimerExpiry s = .next t ∧ t.budget.table[axisClaimant i].state = .granted ∧
        t.budget.crashHold = false ∧ t.offered (writeCycle (.marker i) (regionAddr s.conf .axis (16 * i.val + 10)) 3 false) ∧
        t.agrees { s with
          now := n, budget := t.budget, panel := { s.panel with shown := t.panelState },
          axes := s.axes.set i { s.axes[i] with
            state := .starting, goal := some (.restoreTo p), owed := some (.restoreTo p), mover := some .restore,
            grant := .held, idleEdge := false, markerDone := false, energised := 0, current := none,
            overheated := false, crashInBlocked := false },
          crash := { s.crash with
            state := .restoring, holdAt := none, kind := .restore, legs := [⟨i, true, .requested, none, false⟩] } }) ∧
    ((∀ i : Fin 8, s.crash.snapAxes[i] = none) →
      (∀ d, s.crash.holdAt = some d → ∃ t, exec .crashHoldTimerExpiry s = .next t ∧
        t.agrees { s with
          now := max s.now d, budget := { s.budget with crashHold := false },
          panel := { s.panel with shown := t.panelState },
          crash := { s.crash with state := .idle, holdAt := none, kind := .restore, legs := [], drops := 0 } }) ∧
      (s.link.state = .waitSync → s.link.ready = true → ∃ t, exec .release s = .next t ∧
        t.agrees { s with
          link := s.link.afterFrame s.now, budget := { s.budget with crashHold := false },
          panel := { s.panel with shown := t.panelState },
          crash := { s.crash with state := .idle, holdAt := none, kind := .restore, legs := [], drops := 0 } })))

/-- IMPACT with nothing moving: LOCKED, every timer stopped, the crash hold on, the reservation 0, the panel disabled, every
valve closed, and an urgent write of LOCKED to CRASH_RECORD offered (R89, R144, R177). -/
def Obligations.ImpactLocks : Prop :=
  ∀ s : State, s.inReset = false → s.uport = .idle → s.link.state = .waitSync → s.link.ready = true →
    s.cfg.state = .active → s.atRest → (s.crash.state = .idle ∨ s.crash.state = .armed ∨ s.crash.state = .holding) →
    ∃ t, exec .impact s = .next t ∧ t.offered (writeCycle .crashRecord (regionAddr s.conf .seat 5) 0x00A5 true) ∧
      (∀ c : Fin 12, t.valves c = (false, false)) ∧ t.panel.shown = .disabled ∧
      t.agrees { s with
        link := s.link.afterFrame s.now, air := t.air, panel := t.panel,
        budget := { s.budget with reservation := 0, crashHold := true },
        crash := { s.crash with state := .locked, armAt := none, pullAt := none, holdAt := none, drops := 0 } }

/-! ## Safety link -/

/-- LINK_READY, SYNC_FIELD_START, SLINK_EDGE and FIELD_RECEIVED. 2 ms of high line make the receiver ready, and a falling
edge then starts a SYNC field. Its edges are timed: from edge 3 on a width more than a fifth off the one before is SYNC_SPREAD,
and edge 9 gives the bit time, or RATE where that is outside 20 to 200. A high stop sample ends the SYNC field. In FIELDS the first falling edge starts
a field, and a high stop sample gives its byte, as the line was at 1.5 to 8.5 bit times: a command, or the data byte of PULL
(R162 to R165). An edge 9 that fails both checks is SYNC_SPREAD (log entry 33); half an odd bit time is rounded down (log entry 9); the clock passes the time of the edges and reaches the ready time and the samples (log
entry 1). -/
def Obligations.LinkFraming : Prop :=
  (∀ s : State, s.inReset = false → s.uport.isHeld = false →
    (s.link.state = .waitSync → s.link.lineHigh = true → s.link.ready = false →
      ∃ t, exec .linkReady s = .next t ∧
        t.agrees { s with now := max s.now (s.link.lineSince + 2000), link := { s.link with ready := true } }) ∧
    (∀ dt, s.link.state = .waitSync → s.link.ready = true → ∃ t, exec (.syncFieldStart dt) s = .next t ∧
      t.agrees { s with now := s.now + dt, link := { s.link with
        state := .sync, edges := [s.now + dt], levels := [], lineHigh := false, lineSince := s.now + dt, bitTime := 0,
        command := none, data := none, received := 0, expected := 0, fieldAt := none, turnAt := none } })) ∧
  (∀ (s : State) (dt n : Nat) (rising : Bool), s.inReset = false → s.uport.isHeld = false → n = s.now + dt →
    (s.link.state = .waitSync → s.link.ready = false →
      ∃ t, exec (.slinkEdge dt rising) s = .next t ∧
        t.agrees { s with now := n, link := { s.link with lineHigh := rising, lineSince := n } }) ∧
    (s.link.state = .sync →
      (s.link.edges.length < 3 → ∃ t, exec (.slinkEdge dt rising) s = .next t ∧
        t.agrees { s with now := n, link := { s.link with
          edges := s.link.edges ++ [n], lineHigh := rising, lineSince := n } }) ∧
      (∀ (l : List Nat) (a b : Nat), s.link.edges = l ++ [a, b] → 1 ≤ l.length → l.length ≤ 7 →
        (b - a < 5 * ((n - b) - (b - a)) ∨ b - a < 5 * ((b - a) - (n - b)) →
          ∃ t, exec (.slinkEdge dt rising) s = .next t ∧ t.link.state = .waitSync ∧ t.link.edges = [] ∧
            .syncSpread ∈ t.link.reported ∧ t.agrees { s with now := n, link := t.link }) ∧
        (5 * ((n - b) - (b - a)) ≤ b - a → 5 * ((b - a) - (n - b)) ≤ b - a →
          (l.length ≤ 6 → ∃ t, exec (.slinkEdge dt rising) s = .next t ∧
            t.agrees { s with now := n, link := { s.link with
              edges := s.link.edges ++ [n], lineHigh := rising, lineSince := n } }) ∧
          (∀ f x, l.length = 7 → s.link.edges[1]? = some f → x = (n - f) / 8 →
            (20 ≤ x → x ≤ 200 → ∃ t, exec (.slinkEdge dt rising) s = .next t ∧
              t.agrees { s with now := n, link := { s.link with
                edges := s.link.edges ++ [n], levels := [(n, rising)], bitTime := x, lineHigh := rising,
                lineSince := n } }) ∧
            (x < 20 ∨ 200 < x → ∃ t, exec (.slinkEdge dt rising) s = .next t ∧ t.link.state = .waitSync ∧
              t.link.edges = [] ∧ .rate ∈ t.link.reported ∧ t.agrees { s with now := n, link := t.link }))))) ∧
    (s.link.state = .fields → s.link.fieldAt = none →
      (rising = false → ∃ t, exec (.slinkEdge dt false) s = .next t ∧
        t.agrees { s with now := n, link := { s.link with
          fieldAt := some n, levels := [(n, false)], lineHigh := false, lineSince := n } }) ∧
      (rising = true → ∃ t, exec (.slinkEdge dt true) s = .next t ∧
        t.agrees { s with now := n, link := { s.link with lineHigh := true, lineSince := n } })) ∧
    (∀ f, s.link.state = .fields → s.link.fieldAt = some f → ∃ t, exec (.slinkEdge dt rising) s = .next t ∧
      t.agrees { s with now := n, link := { s.link with
        levels := s.link.levels ++ [(n, rising)], lineHigh := rising, lineSince := n } })) ∧
  (∀ (s : State) (b : Byte), s.inReset = false → s.uport.isHeld = false → s.link.lineHigh = true →
    (∀ n, s.link.state = .sync → s.link.edges.length = 10 → s.link.edges[9]? = some n → s.link.levels = [(n, true)] →
      ∃ t, exec (.fieldReceived b) s = .next t ∧
        t.agrees { s with now := max s.now (n + s.link.bitTime / 2),
                          link := { s.link with state := .fields, received := 0, levels := [] } }) ∧
    (∀ f, s.link.state = .fields → s.link.fieldAt = some f →
      (∀ k : Fin 8, b.getLsbD k.val = s.link.levelAt (f + (2 * k.val + 3) * s.link.bitTime / 2)) →
      s.link.levelAt (f + 19 * s.link.bitTime / 2) = true →
      (s.link.command = none → isCommand b = true → ∃ t, exec (.fieldReceived b) s = .next t ∧
        t.agrees { s with now := max s.now (f + 19 * s.link.bitTime / 2), link := { s.link with
          command := some b, received := s.link.received + 1, expected := if b = 0x32 then 1 else 0, fieldAt := none,
          levels := [] } }) ∧
      (s.link.command = some 0x32 → s.link.expected = 1 → ∃ t, exec (.fieldReceived b) s = .next t ∧
        t.agrees { s with now := max s.now (f + 19 * s.link.bitTime / 2), link := { s.link with
          data := some b, received := s.link.received + 1, expected := 0, fieldAt := none, levels := [] } })))

/-- QUERY, TURNAROUND_END and REPLY_END: two bit times after the frame the reply is formed from the state as it then is: STATUS 0x45, the
crash state with the legs not yet finished, the legs done and failed, and the CRC; it ends after 50 bit times. The part drives the
line low in a bit that it does not release: a start bit or a data bit of 0, least significant first. REPLY_CANCEL: a
falling edge in TURNAROUND starts a new SYNC field; REPLY_ABANDON, a low sample in the middle of the next bit the part releases, gives up the reply (R161, R166, section
11.5). QUERY carries the bit time of its frame, 20 to 200, and half an odd one is rounded down (log entry 9); the clock reaches the
ends and the sample (log entry 1). -/
def Obligations.LinkReplies : Prop :=
  (∀ s : State, s.inReset = false → s.uport.isHeld = false →
    (∀ b, s.link.state = .waitSync → s.link.ready = true → 20 ≤ b → b ≤ 200 → ∃ t, exec (.query b) s = .next t ∧
      t.link.state = .turnaround ∧ t.link.bitTime = b ∧ t.link.turnAt = some (s.now + 2 * b) ∧
      t.link.reported = [] ∧ t.agrees { s with link := t.link }) ∧
    (∀ d, s.link.state = .turnaround → s.link.turnAt = some d → ∃ t, exec .turnaroundEnd s = .next t ∧
      (∀ d1 d2 : Byte, d1.toNat = (s.crashStepCount * 16 + crashCode s.crash.state) % 256 →
        d2.toNat = (s.legCount .done * 16 + s.legCount .failed) % 256 →
        t.link.reply = some [0x55, 0x45, d1, d2, BitVec.ofNat 8 (crc8 [0x45, d1.toNat, d2.toNat])]) ∧
      t.agrees { s with now := max s.now d, link := { s.link with
        state := .reply, ready := false, turnAt := none, reply := t.link.reply,
        replyAt := some (max s.now d + 50 * s.link.bitTime) } }) ∧
    (∀ d, s.link.state = .reply → s.link.replyAt = some d → ∃ t, exec .replyEnd s = .next t ∧
      t.link.state = .waitSync ∧ t.link.ready = false ∧ t.link.reply = none ∧ t.link.replyAt = none ∧
      t.link.lineHigh = true ∧ t.agrees { s with now := max s.now d, link := t.link })) ∧
  (∀ s : State, s.inReset = false → s.uport.isHeld = false → s.link.state = .turnaround →
    ∃ t, exec .replyCancel s = .next t ∧ t.link.state = .sync ∧ t.link.edges = [s.now] ∧ t.link.turnAt = none ∧
      t.link.lineHigh = false ∧ t.agrees { s with link := t.link }) ∧
  (∀ (s : State) (r : List Byte) (d k x : Nat), s.inReset = false → s.uport.isHeld = false → s.link.state = .reply →
    s.link.reply = some r → r.length = 5 → s.link.replyAt = some d → 50 * s.link.bitTime ≤ d → k < 50 →
    x = d - 50 * s.link.bitTime + k * s.link.bitTime →
    (x ≤ s.now → s.now < x + s.link.bitTime → (s.slinkLow = true ↔ ¬ releasedBit r k)) ∧
    (releasedBit r k → s.now ≤ x + s.link.bitTime / 2 →
      (∀ j, j < k → releasedBit r j →
        d - 50 * s.link.bitTime + j * s.link.bitTime + s.link.bitTime / 2 < s.now) →
      ∃ t, exec .replyAbandon s = .next t ∧
        t.agrees { s with now := x + s.link.bitTime / 2, link := { s.link with
          state := .waitSync, ready := false, reply := none, replyAt := none, lineHigh := false,
          lineSince := x + s.link.bitTime / 2, bitTime := 0, edges := [], command := none, data := none, received := 0,
          expected := 0, fieldAt := none, levels := [] } }))

/-- LINK_RECEIVE_ERROR and IDLE_TIMEOUT discard the frame: WAIT_SYNC, the kind in the reported set, the ready mark clear unless the line has been high for
2 ms. The errors of the SYNC field are taken as their rows give them, and those of a field when the line gives them at
its stop sample (log entry 9). IDLE_TIMEOUT comes when the line has stood still for 10 ms and 1 microsecond: the model's reading of more than 10 ms on a
clock of microseconds (log entry 1) (R163 to R165). -/
def Obligations.LinkErrorsDiscardFrame : Prop :=
  (∀ s : State, s.inReset = false → s.uport.isHeld = false →
    (∀ d, s.link.state = .sync → ∃ t, exec (.linkReceiveError .syncSpread d) s = .next t ∧ t.link.state = .waitSync ∧
      t.link.edges = [] ∧ t.link.command = none ∧ .syncSpread ∈ t.link.reported ∧
      (∀ k ∈ s.link.reported, k ∈ t.link.reported) ∧ t.agrees { s with link := t.link }) ∧
    (s.link.state = .sync ∨ s.link.state = .fields → ∃ t, exec .idleTimeout s = .next t ∧
      t.link.state = .waitSync ∧ t.link.command = none ∧ .idleTimeout ∈ t.link.reported ∧
      t.link.ready = s.link.lineHigh ∧
      t.now = max s.now (s.link.lineSince + 10001) ∧ t.agrees { s with now := t.now, link := t.link })) ∧
  (∀ (s : State) (k : LinkError) (d : Word), s.inReset = false → s.uport.isHeld = false →
    (s.link.state = .sync ∧ (k = .rate ∨ k = .syncSpread)) ∨ s.link.canFail k d = true →
    ∃ t, exec (.linkReceiveError k d) s = .next t ∧ t.link.state = .waitSync ∧ t.link.edges = [] ∧
      t.link.command = none ∧ t.link.data = none ∧ k ∈ t.link.reported ∧ (∀ x ∈ s.link.reported, x ∈ t.link.reported) ∧
      (t.link.ready = true ↔ t.link.lineHigh = true ∧ t.link.lineSince + 2000 ≤ t.now) ∧
      t.agrees { s with now := t.now, link := t.link })

/-- The events of the link that hand nothing to another block change the receiver and the clock alone, to the last bit:
not even the queues or the journal writer move (R161, R162, R166). -/
def Obligations.LinkEventsTouchOnlyTheLink : Prop :=
  ∀ (s t : State) (c : Instr), s.path.resync = false →
    (c = .linkReady ∨ (∃ b, c = .query b) ∨ c = .turnaroundEnd ∨ c = .replyCancel ∨ c = .replyAbandon ∨
      c = .replyEnd ∨ ∃ dt, c = .syncFieldStart dt) →
    exec c s = .next t → t = { s with link := t.link, now := t.now }

/-! ## Journal -/

/-- JOURNAL_INIT_WRITE_COMPLETE: the header words are written in order, and after the last the ring is READY and empty.
HEADER_REFRESH_WRITE_COMPLETE of HEADER_CHECK ends the refresh, and RECOUNT_READ_COMPLETE counts the class of the entry read (R34, R180, R183, R185). -/
def Obligations.JournalWriterGoesOn : Prop :=
  (∀ (s : State) (c : Cycle) (w : Word) (k : Fin 4), s.inReset = false → s.uport.isHeld = false → s.onDport c w →
    c.purpose = .journalInit → s.journal.stale = false → s.journal.work = some (.init k) →
    s.cfg.step ≠ .journalInit →
    (k.val < 3 → s.journal.ring = .opening → ∃ t, exec .journalInitWriteComplete s = .next t ∧
      t.offered (writeCycle .journalInit (regionAddr s.conf .journal (k.val + 1))
        (if k.val = 2 then checkWord 0x4D [0, 0, 0] else 0) false) ∧
      t.journal = { s.journal with work := some (.init (k + 1)) } ∧ t.agrees s) ∧
    (k.val = 3 → ∃ t, exec .journalInitWriteComplete s = .next t ∧ t.journal.ring = .ready ∧
      t.journal.read = 0 ∧ t.journal.write = 0 ∧ t.journal.unread = 0 ∧ t.agrees s)) ∧
  (∀ (s : State) (c : Cycle) (w : Word), s.inReset = false → s.uport.isHeld = false → s.onDport c w →
    s.journal.stale = false → s.journal.ring = .ready → s.journal.refresh = false → s.journal.staging = [] →
    (c.purpose = .headerRefresh → s.journal.work = some (.check true) → s.journal.recount = [] →
      ∃ t, exec .headerRefreshWriteComplete s = .next t ∧ t.journal = { s.journal with work := none } ∧ t.agrees s) ∧
    (∀ (p : Fin 64) (k : EntryClass), c.purpose = .recount → s.journal.work = some (.recount p) →
      s.journal.recount = [p] → classOfCode (field w 12 4) = some k →
      ∃ t, exec .recountReadComplete s = .next t ∧
        t.journal = { s.journal with
          work := none, recount := [], classes := s.journal.classes.set p (some k),
          counts := s.journal.counts.set k.index (s.journal.counts[k.index] + 1) } ∧ t.agrees s))

/-- APPEND_WRITE_COMPLETE of WRITE_INDEX: the entry joins the ring, its class is counted, and ATTN follows the class counts (R182, R185). -/
def Obligations.AppendJoinsRing : Prop :=
  ∀ (s : State) (c : Cycle) (w : Word) (x : Entry) (rest : List Entry), s.inReset = false →
    s.uport.isHeld = false → s.onDport c w → c.purpose = .append → s.journal.stale = false →
    s.journal.work = some .index → s.journal.staging = x :: rest →
    ∃ t, exec .appendWriteComplete s = .next t ∧ t.journal.write = s.journal.write + 1 ∧
      t.journal.unread = s.journal.unread + 1 ∧ t.journal.classes[s.journal.write] = some x.code.cls ∧
      t.journal.counts[x.code.cls.index] = s.journal.counts[x.code.cls.index] + 1 ∧
      (∀ k : Fin 7, k ≠ x.code.cls.index → t.journal.counts[k] = s.journal.counts[k]) ∧
      (s.working = true → s.conf.notify.getLsbD x.code.cls.index.val = true → t.attn = true) ∧ t.agrees s

/-! ## Words -/

/-- The CRC-8 of R187: the register starts at 0xFF; a byte is XORed in and 8 shifts follow; at each shift, if the bit leaving at
the top was 1, the shifted register is XORed with 0x2F. For a record the bytes are its words, high byte first; a word is
the check word when its high byte is the tag and its low byte the CRC. For a link frame the bytes are the command byte
and the data. The CHECK field of a QUERY is 0x0C. -/
def Obligations.CrcProcedure : Prop :=
  crc8 [] = 0xFF ∧
  (∀ (l : List Nat) (b : Nat), crc8 (l ++ [b]) = Nat.iterate crcShift 8 (crc8 l ^^^ b)) ∧
  (∀ r : BitVec 8, crcShift r.toNat = (if r.msb then (r <<< 1) ^^^ 0x2F else r <<< 1).toNat) ∧
  (∀ ws : List Word, crcWords ws = crc8 (ws.flatMap (fun w => [w.toNat / 256, w.toNat % 256]))) ∧
  (∀ (tag : BitVec 8) (ws : List Word) (w : Word),
    w = checkWord tag.toNat ws ↔ w.toNat / 256 = tag.toNat ∧ w.toNat % 256 = crcWords ws) ∧
  (∀ (code : Byte) (d : Option Byte), (frameCrc code d).toNat =
    crc8 (code.toNat :: (match d with
      | some x => [x.toNat]
      | none => []))) ∧
  frameCrc 0x35 none = 0x0C

/-! ## Every step -/

/-- Every step keeps the catch-up list at no more than 8 addresses and free of duplicates (R16), the insert queue at no more than
16 entries (R23), the staging queue at no more than 8 (R181) and the waiting queue free of duplicates (R77), and every axis
record sound: a drive is on only in RUNNING or REVERSING, under its grant (R51). Both hold after reset. -/
def Obligations.StepKeepsQueuesAndDrives : Prop :=
  (State.reset.queuesSound ∧ State.reset.drivesSound) ∧
  (∀ s t : State, s.queuesSound → step s = .next t → t.queuesSound) ∧
  (∀ s t : State, s.drivesSound → step s = .next t → t.drivesSound)
end

