-- ==== Sys2Proof/Laws/State.lean ====
section
/-! SUPPORT. What each update of the state within an event changes, field by field. -/

namespace Sys2Proof.Machine

variable (e : Ev)

section setAxis
variable (i : Fin 8) (a : Axis)
@[simp] theorem setAxis_pending : (e.setAxis i a).pending = e.pending := rfl
@[simp] theorem setAxis_now : (e.setAxis i a).now = e.now := rfl
@[simp] theorem setAxis_inReset : (e.setAxis i a).inReset = e.inReset := rfl
@[simp] theorem setAxis_mem : (e.setAxis i a).mem = e.mem := rfl
@[simp] theorem setAxis_uport : (e.setAxis i a).uport = e.uport := rfl
@[simp] theorem setAxis_lastRead : (e.setAxis i a).lastRead = e.lastRead := rfl
@[simp] theorem setAxis_path : (e.setAxis i a).path = e.path := rfl
@[simp] theorem setAxis_ins : (e.setAxis i a).ins = e.ins := rfl
@[simp] theorem setAxis_cfg : (e.setAxis i a).cfg = e.cfg := rfl
@[simp] theorem setAxis_axes : (e.setAxis i a).axes = e.axes.set i a := rfl
@[simp] theorem setAxis_budget : (e.setAxis i a).budget = e.budget := rfl
@[simp] theorem setAxis_engine : (e.setAxis i a).engine = e.engine := rfl
@[simp] theorem setAxis_panel : (e.setAxis i a).panel = e.panel := rfl
@[simp] theorem setAxis_air : (e.setAxis i a).air = e.air := rfl
@[simp] theorem setAxis_zones : (e.setAxis i a).zones = e.zones := rfl
@[simp] theorem setAxis_crash : (e.setAxis i a).crash = e.crash := rfl
@[simp] theorem setAxis_link : (e.setAxis i a).link = e.link := rfl
@[simp] theorem setAxis_journal : (e.setAxis i a).journal = e.journal := rfl
@[simp] theorem setAxis_meas : (e.setAxis i a).meas = e.meas := rfl
@[simp] theorem setAxis_order : (e.setAxis i a).order = e.order := rfl
@[simp] theorem setAxis_sigs : (e.setAxis i a).sigs = e.sigs := rfl
end setAxis

section withBudget
variable (b : Budget)
@[simp] theorem withBudget_pending : (e.withBudget b).pending = e.pending := rfl
@[simp] theorem withBudget_now : (e.withBudget b).now = e.now := rfl
@[simp] theorem withBudget_inReset : (e.withBudget b).inReset = e.inReset := rfl
@[simp] theorem withBudget_mem : (e.withBudget b).mem = e.mem := rfl
@[simp] theorem withBudget_uport : (e.withBudget b).uport = e.uport := rfl
@[simp] theorem withBudget_lastRead : (e.withBudget b).lastRead = e.lastRead := rfl
@[simp] theorem withBudget_path : (e.withBudget b).path = e.path := rfl
@[simp] theorem withBudget_ins : (e.withBudget b).ins = e.ins := rfl
@[simp] theorem withBudget_cfg : (e.withBudget b).cfg = e.cfg := rfl
@[simp] theorem withBudget_axes : (e.withBudget b).axes = e.axes := rfl
@[simp] theorem withBudget_budget : (e.withBudget b).budget = b := rfl
@[simp] theorem withBudget_engine : (e.withBudget b).engine = e.engine := rfl
@[simp] theorem withBudget_panel : (e.withBudget b).panel = e.panel := rfl
@[simp] theorem withBudget_air : (e.withBudget b).air = e.air := rfl
@[simp] theorem withBudget_zones : (e.withBudget b).zones = e.zones := rfl
@[simp] theorem withBudget_crash : (e.withBudget b).crash = e.crash := rfl
@[simp] theorem withBudget_link : (e.withBudget b).link = e.link := rfl
@[simp] theorem withBudget_journal : (e.withBudget b).journal = e.journal := rfl
@[simp] theorem withBudget_meas : (e.withBudget b).meas = e.meas := rfl
@[simp] theorem withBudget_order : (e.withBudget b).order = e.order := rfl
@[simp] theorem withBudget_sigs : (e.withBudget b).sigs = e.sigs := rfl
end withBudget

section setZone
variable (z : Fin 6) (x : Zone)
@[simp] theorem setZone_pending : (e.setZone z x).pending = e.pending := rfl
@[simp] theorem setZone_now : (e.setZone z x).now = e.now := rfl
@[simp] theorem setZone_inReset : (e.setZone z x).inReset = e.inReset := rfl
@[simp] theorem setZone_mem : (e.setZone z x).mem = e.mem := rfl
@[simp] theorem setZone_uport : (e.setZone z x).uport = e.uport := rfl
@[simp] theorem setZone_lastRead : (e.setZone z x).lastRead = e.lastRead := rfl
@[simp] theorem setZone_path : (e.setZone z x).path = e.path := rfl
@[simp] theorem setZone_ins : (e.setZone z x).ins = e.ins := rfl
@[simp] theorem setZone_cfg : (e.setZone z x).cfg = e.cfg := rfl
@[simp] theorem setZone_axes : (e.setZone z x).axes = e.axes := rfl
@[simp] theorem setZone_budget : (e.setZone z x).budget = e.budget := rfl
@[simp] theorem setZone_engine : (e.setZone z x).engine = e.engine := rfl
@[simp] theorem setZone_panel : (e.setZone z x).panel = e.panel := rfl
@[simp] theorem setZone_air : (e.setZone z x).air = e.air := rfl
@[simp] theorem setZone_zones : (e.setZone z x).zones = e.zones.set z x := rfl
@[simp] theorem setZone_crash : (e.setZone z x).crash = e.crash := rfl
@[simp] theorem setZone_link : (e.setZone z x).link = e.link := rfl
@[simp] theorem setZone_journal : (e.setZone z x).journal = e.journal := rfl
@[simp] theorem setZone_meas : (e.setZone z x).meas = e.meas := rfl
@[simp] theorem setZone_order : (e.setZone z x).order = e.order := rfl
@[simp] theorem setZone_sigs : (e.setZone z x).sigs = e.sigs := rfl
end setZone

section setChamber
variable (c : Fin 12) (x : Chamber)
@[simp] theorem setChamber_pending : (e.setChamber c x).pending = e.pending := rfl
@[simp] theorem setChamber_now : (e.setChamber c x).now = e.now := rfl
@[simp] theorem setChamber_inReset : (e.setChamber c x).inReset = e.inReset := rfl
@[simp] theorem setChamber_mem : (e.setChamber c x).mem = e.mem := rfl
@[simp] theorem setChamber_uport : (e.setChamber c x).uport = e.uport := rfl
@[simp] theorem setChamber_lastRead : (e.setChamber c x).lastRead = e.lastRead := rfl
@[simp] theorem setChamber_path : (e.setChamber c x).path = e.path := rfl
@[simp] theorem setChamber_ins : (e.setChamber c x).ins = e.ins := rfl
@[simp] theorem setChamber_cfg : (e.setChamber c x).cfg = e.cfg := rfl
@[simp] theorem setChamber_axes : (e.setChamber c x).axes = e.axes := rfl
@[simp] theorem setChamber_budget : (e.setChamber c x).budget = e.budget := rfl
@[simp] theorem setChamber_engine : (e.setChamber c x).engine = e.engine := rfl
@[simp] theorem setChamber_panel : (e.setChamber c x).panel = e.panel := rfl
@[simp] theorem setChamber_air : (e.setChamber c x).air = { e.air with chambers := e.air.chambers.set c x } := rfl
@[simp] theorem setChamber_zones : (e.setChamber c x).zones = e.zones := rfl
@[simp] theorem setChamber_crash : (e.setChamber c x).crash = e.crash := rfl
@[simp] theorem setChamber_link : (e.setChamber c x).link = e.link := rfl
@[simp] theorem setChamber_journal : (e.setChamber c x).journal = e.journal := rfl
@[simp] theorem setChamber_meas : (e.setChamber c x).meas = e.meas := rfl
@[simp] theorem setChamber_order : (e.setChamber c x).order = e.order := rfl
@[simp] theorem setChamber_sigs : (e.setChamber c x).sigs = e.sigs := rfl
end setChamber

section setMassage
variable (m : Massage)
@[simp] theorem setMassage_pending : (e.setMassage m).pending = e.pending := rfl
@[simp] theorem setMassage_now : (e.setMassage m).now = e.now := rfl
@[simp] theorem setMassage_inReset : (e.setMassage m).inReset = e.inReset := rfl
@[simp] theorem setMassage_mem : (e.setMassage m).mem = e.mem := rfl
@[simp] theorem setMassage_uport : (e.setMassage m).uport = e.uport := rfl
@[simp] theorem setMassage_lastRead : (e.setMassage m).lastRead = e.lastRead := rfl
@[simp] theorem setMassage_path : (e.setMassage m).path = e.path := rfl
@[simp] theorem setMassage_ins : (e.setMassage m).ins = e.ins := rfl
@[simp] theorem setMassage_cfg : (e.setMassage m).cfg = e.cfg := rfl
@[simp] theorem setMassage_axes : (e.setMassage m).axes = e.axes := rfl
@[simp] theorem setMassage_budget : (e.setMassage m).budget = e.budget := rfl
@[simp] theorem setMassage_engine : (e.setMassage m).engine = e.engine := rfl
@[simp] theorem setMassage_panel : (e.setMassage m).panel = e.panel := rfl
@[simp] theorem setMassage_air : (e.setMassage m).air = { e.air with massage := m } := rfl
@[simp] theorem setMassage_zones : (e.setMassage m).zones = e.zones := rfl
@[simp] theorem setMassage_crash : (e.setMassage m).crash = e.crash := rfl
@[simp] theorem setMassage_link : (e.setMassage m).link = e.link := rfl
@[simp] theorem setMassage_journal : (e.setMassage m).journal = e.journal := rfl
@[simp] theorem setMassage_meas : (e.setMassage m).meas = e.meas := rfl
@[simp] theorem setMassage_order : (e.setMassage m).order = e.order := rfl
@[simp] theorem setMassage_sigs : (e.setMassage m).sigs = e.sigs := rfl
end setMassage

section setPump
variable (p : Option Priority) (g : Bool)
@[simp] theorem setPump_pending : (e.setPump p g).pending = e.pending := rfl
@[simp] theorem setPump_now : (e.setPump p g).now = e.now := rfl
@[simp] theorem setPump_inReset : (e.setPump p g).inReset = e.inReset := rfl
@[simp] theorem setPump_mem : (e.setPump p g).mem = e.mem := rfl
@[simp] theorem setPump_uport : (e.setPump p g).uport = e.uport := rfl
@[simp] theorem setPump_lastRead : (e.setPump p g).lastRead = e.lastRead := rfl
@[simp] theorem setPump_path : (e.setPump p g).path = e.path := rfl
@[simp] theorem setPump_ins : (e.setPump p g).ins = e.ins := rfl
@[simp] theorem setPump_cfg : (e.setPump p g).cfg = e.cfg := rfl
@[simp] theorem setPump_axes : (e.setPump p g).axes = e.axes := rfl
@[simp] theorem setPump_budget : (e.setPump p g).budget = e.budget := rfl
@[simp] theorem setPump_engine : (e.setPump p g).engine = e.engine := rfl
@[simp] theorem setPump_panel : (e.setPump p g).panel = e.panel := rfl
@[simp] theorem setPump_air : (e.setPump p g).air = { e.air with claim := p, granted := g } := rfl
@[simp] theorem setPump_zones : (e.setPump p g).zones = e.zones := rfl
@[simp] theorem setPump_crash : (e.setPump p g).crash = e.crash := rfl
@[simp] theorem setPump_link : (e.setPump p g).link = e.link := rfl
@[simp] theorem setPump_journal : (e.setPump p g).journal = e.journal := rfl
@[simp] theorem setPump_meas : (e.setPump p g).meas = e.meas := rfl
@[simp] theorem setPump_order : (e.setPump p g).order = e.order := rfl
@[simp] theorem setPump_sigs : (e.setPump p g).sigs = e.sigs := rfl
end setPump

section setEngine
variable (g : Engine)
@[simp] theorem setEngine_pending : (e.setEngine g).pending = e.pending := rfl
@[simp] theorem setEngine_now : (e.setEngine g).now = e.now := rfl
@[simp] theorem setEngine_inReset : (e.setEngine g).inReset = e.inReset := rfl
@[simp] theorem setEngine_mem : (e.setEngine g).mem = e.mem := rfl
@[simp] theorem setEngine_uport : (e.setEngine g).uport = e.uport := rfl
@[simp] theorem setEngine_lastRead : (e.setEngine g).lastRead = e.lastRead := rfl
@[simp] theorem setEngine_path : (e.setEngine g).path = e.path := rfl
@[simp] theorem setEngine_ins : (e.setEngine g).ins = e.ins := rfl
@[simp] theorem setEngine_cfg : (e.setEngine g).cfg = e.cfg := rfl
@[simp] theorem setEngine_axes : (e.setEngine g).axes = e.axes := rfl
@[simp] theorem setEngine_budget : (e.setEngine g).budget = e.budget := rfl
@[simp] theorem setEngine_engine : (e.setEngine g).engine = g := rfl
@[simp] theorem setEngine_panel : (e.setEngine g).panel = e.panel := rfl
@[simp] theorem setEngine_air : (e.setEngine g).air = e.air := rfl
@[simp] theorem setEngine_zones : (e.setEngine g).zones = e.zones := rfl
@[simp] theorem setEngine_crash : (e.setEngine g).crash = e.crash := rfl
@[simp] theorem setEngine_link : (e.setEngine g).link = e.link := rfl
@[simp] theorem setEngine_journal : (e.setEngine g).journal = e.journal := rfl
@[simp] theorem setEngine_meas : (e.setEngine g).meas = e.meas := rfl
@[simp] theorem setEngine_order : (e.setEngine g).order = e.order := rfl
@[simp] theorem setEngine_sigs : (e.setEngine g).sigs = e.sigs := rfl
end setEngine

section setPlan
variable (r : Recall)
@[simp] theorem setPlan_pending : (e.setPlan r).pending = e.pending := rfl
@[simp] theorem setPlan_now : (e.setPlan r).now = e.now := rfl
@[simp] theorem setPlan_inReset : (e.setPlan r).inReset = e.inReset := rfl
@[simp] theorem setPlan_mem : (e.setPlan r).mem = e.mem := rfl
@[simp] theorem setPlan_uport : (e.setPlan r).uport = e.uport := rfl
@[simp] theorem setPlan_lastRead : (e.setPlan r).lastRead = e.lastRead := rfl
@[simp] theorem setPlan_path : (e.setPlan r).path = e.path := rfl
@[simp] theorem setPlan_ins : (e.setPlan r).ins = e.ins := rfl
@[simp] theorem setPlan_cfg : (e.setPlan r).cfg = e.cfg := rfl
@[simp] theorem setPlan_axes : (e.setPlan r).axes = e.axes := rfl
@[simp] theorem setPlan_budget : (e.setPlan r).budget = e.budget := rfl
@[simp] theorem setPlan_engine : (e.setPlan r).engine = { e.engine with plan := r } := rfl
@[simp] theorem setPlan_panel : (e.setPlan r).panel = e.panel := rfl
@[simp] theorem setPlan_air : (e.setPlan r).air = e.air := rfl
@[simp] theorem setPlan_zones : (e.setPlan r).zones = e.zones := rfl
@[simp] theorem setPlan_crash : (e.setPlan r).crash = e.crash := rfl
@[simp] theorem setPlan_link : (e.setPlan r).link = e.link := rfl
@[simp] theorem setPlan_journal : (e.setPlan r).journal = e.journal := rfl
@[simp] theorem setPlan_meas : (e.setPlan r).meas = e.meas := rfl
@[simp] theorem setPlan_order : (e.setPlan r).order = e.order := rfl
@[simp] theorem setPlan_sigs : (e.setPlan r).sigs = e.sigs := rfl
end setPlan

section setProfile
variable (n : Fin 4) (p : ProfileEntry)
@[simp] theorem setProfile_pending : (e.setProfile n p).pending = e.pending := rfl
@[simp] theorem setProfile_now : (e.setProfile n p).now = e.now := rfl
@[simp] theorem setProfile_inReset : (e.setProfile n p).inReset = e.inReset := rfl
@[simp] theorem setProfile_mem : (e.setProfile n p).mem = e.mem := rfl
@[simp] theorem setProfile_uport : (e.setProfile n p).uport = e.uport := rfl
@[simp] theorem setProfile_lastRead : (e.setProfile n p).lastRead = e.lastRead := rfl
@[simp] theorem setProfile_path : (e.setProfile n p).path = e.path := rfl
@[simp] theorem setProfile_ins : (e.setProfile n p).ins = e.ins := rfl
@[simp] theorem setProfile_cfg : (e.setProfile n p).cfg = e.cfg := rfl
@[simp] theorem setProfile_axes : (e.setProfile n p).axes = e.axes := rfl
@[simp] theorem setProfile_budget : (e.setProfile n p).budget = e.budget := rfl
@[simp] theorem setProfile_engine : (e.setProfile n p).engine = { e.engine with profiles := e.engine.profiles.set n p } := rfl
@[simp] theorem setProfile_panel : (e.setProfile n p).panel = e.panel := rfl
@[simp] theorem setProfile_air : (e.setProfile n p).air = e.air := rfl
@[simp] theorem setProfile_zones : (e.setProfile n p).zones = e.zones := rfl
@[simp] theorem setProfile_crash : (e.setProfile n p).crash = e.crash := rfl
@[simp] theorem setProfile_link : (e.setProfile n p).link = e.link := rfl
@[simp] theorem setProfile_journal : (e.setProfile n p).journal = e.journal := rfl
@[simp] theorem setProfile_meas : (e.setProfile n p).meas = e.meas := rfl
@[simp] theorem setProfile_order : (e.setProfile n p).order = e.order := rfl
@[simp] theorem setProfile_sigs : (e.setProfile n p).sigs = e.sigs := rfl
end setProfile

section setPanel
variable (p : Panel)
@[simp] theorem setPanel_pending : (e.setPanel p).pending = e.pending := rfl
@[simp] theorem setPanel_now : (e.setPanel p).now = e.now := rfl
@[simp] theorem setPanel_inReset : (e.setPanel p).inReset = e.inReset := rfl
@[simp] theorem setPanel_mem : (e.setPanel p).mem = e.mem := rfl
@[simp] theorem setPanel_uport : (e.setPanel p).uport = e.uport := rfl
@[simp] theorem setPanel_lastRead : (e.setPanel p).lastRead = e.lastRead := rfl
@[simp] theorem setPanel_path : (e.setPanel p).path = e.path := rfl
@[simp] theorem setPanel_ins : (e.setPanel p).ins = e.ins := rfl
@[simp] theorem setPanel_cfg : (e.setPanel p).cfg = e.cfg := rfl
@[simp] theorem setPanel_axes : (e.setPanel p).axes = e.axes := rfl
@[simp] theorem setPanel_budget : (e.setPanel p).budget = e.budget := rfl
@[simp] theorem setPanel_engine : (e.setPanel p).engine = e.engine := rfl
@[simp] theorem setPanel_panel : (e.setPanel p).panel = p := rfl
@[simp] theorem setPanel_air : (e.setPanel p).air = e.air := rfl
@[simp] theorem setPanel_zones : (e.setPanel p).zones = e.zones := rfl
@[simp] theorem setPanel_crash : (e.setPanel p).crash = e.crash := rfl
@[simp] theorem setPanel_link : (e.setPanel p).link = e.link := rfl
@[simp] theorem setPanel_journal : (e.setPanel p).journal = e.journal := rfl
@[simp] theorem setPanel_meas : (e.setPanel p).meas = e.meas := rfl
@[simp] theorem setPanel_order : (e.setPanel p).order = e.order := rfl
@[simp] theorem setPanel_sigs : (e.setPanel p).sigs = e.sigs := rfl
end setPanel

section setCrash
variable (c : Crash)
@[simp] theorem setCrash_pending : (e.setCrash c).pending = e.pending := rfl
@[simp] theorem setCrash_now : (e.setCrash c).now = e.now := rfl
@[simp] theorem setCrash_inReset : (e.setCrash c).inReset = e.inReset := rfl
@[simp] theorem setCrash_mem : (e.setCrash c).mem = e.mem := rfl
@[simp] theorem setCrash_uport : (e.setCrash c).uport = e.uport := rfl
@[simp] theorem setCrash_lastRead : (e.setCrash c).lastRead = e.lastRead := rfl
@[simp] theorem setCrash_path : (e.setCrash c).path = e.path := rfl
@[simp] theorem setCrash_ins : (e.setCrash c).ins = e.ins := rfl
@[simp] theorem setCrash_cfg : (e.setCrash c).cfg = e.cfg := rfl
@[simp] theorem setCrash_axes : (e.setCrash c).axes = e.axes := rfl
@[simp] theorem setCrash_budget : (e.setCrash c).budget = e.budget := rfl
@[simp] theorem setCrash_engine : (e.setCrash c).engine = e.engine := rfl
@[simp] theorem setCrash_panel : (e.setCrash c).panel = e.panel := rfl
@[simp] theorem setCrash_air : (e.setCrash c).air = e.air := rfl
@[simp] theorem setCrash_zones : (e.setCrash c).zones = e.zones := rfl
@[simp] theorem setCrash_crash : (e.setCrash c).crash = c := rfl
@[simp] theorem setCrash_link : (e.setCrash c).link = e.link := rfl
@[simp] theorem setCrash_journal : (e.setCrash c).journal = e.journal := rfl
@[simp] theorem setCrash_meas : (e.setCrash c).meas = e.meas := rfl
@[simp] theorem setCrash_order : (e.setCrash c).order = e.order := rfl
@[simp] theorem setCrash_sigs : (e.setCrash c).sigs = e.sigs := rfl
end setCrash

section setLink
variable (l : Link)
@[simp] theorem setLink_pending : (e.setLink l).pending = e.pending := rfl
@[simp] theorem setLink_now : (e.setLink l).now = e.now := rfl
@[simp] theorem setLink_inReset : (e.setLink l).inReset = e.inReset := rfl
@[simp] theorem setLink_mem : (e.setLink l).mem = e.mem := rfl
@[simp] theorem setLink_uport : (e.setLink l).uport = e.uport := rfl
@[simp] theorem setLink_lastRead : (e.setLink l).lastRead = e.lastRead := rfl
@[simp] theorem setLink_path : (e.setLink l).path = e.path := rfl
@[simp] theorem setLink_ins : (e.setLink l).ins = e.ins := rfl
@[simp] theorem setLink_cfg : (e.setLink l).cfg = e.cfg := rfl
@[simp] theorem setLink_axes : (e.setLink l).axes = e.axes := rfl
@[simp] theorem setLink_budget : (e.setLink l).budget = e.budget := rfl
@[simp] theorem setLink_engine : (e.setLink l).engine = e.engine := rfl
@[simp] theorem setLink_panel : (e.setLink l).panel = e.panel := rfl
@[simp] theorem setLink_air : (e.setLink l).air = e.air := rfl
@[simp] theorem setLink_zones : (e.setLink l).zones = e.zones := rfl
@[simp] theorem setLink_crash : (e.setLink l).crash = e.crash := rfl
@[simp] theorem setLink_link : (e.setLink l).link = l := rfl
@[simp] theorem setLink_journal : (e.setLink l).journal = e.journal := rfl
@[simp] theorem setLink_meas : (e.setLink l).meas = e.meas := rfl
@[simp] theorem setLink_order : (e.setLink l).order = e.order := rfl
@[simp] theorem setLink_sigs : (e.setLink l).sigs = e.sigs := rfl
end setLink

section setJournal
variable (j : Journal)
@[simp] theorem setJournal_pending : (e.setJournal j).pending = e.pending := rfl
@[simp] theorem setJournal_now : (e.setJournal j).now = e.now := rfl
@[simp] theorem setJournal_inReset : (e.setJournal j).inReset = e.inReset := rfl
@[simp] theorem setJournal_mem : (e.setJournal j).mem = e.mem := rfl
@[simp] theorem setJournal_uport : (e.setJournal j).uport = e.uport := rfl
@[simp] theorem setJournal_lastRead : (e.setJournal j).lastRead = e.lastRead := rfl
@[simp] theorem setJournal_path : (e.setJournal j).path = e.path := rfl
@[simp] theorem setJournal_ins : (e.setJournal j).ins = e.ins := rfl
@[simp] theorem setJournal_cfg : (e.setJournal j).cfg = e.cfg := rfl
@[simp] theorem setJournal_axes : (e.setJournal j).axes = e.axes := rfl
@[simp] theorem setJournal_budget : (e.setJournal j).budget = e.budget := rfl
@[simp] theorem setJournal_engine : (e.setJournal j).engine = e.engine := rfl
@[simp] theorem setJournal_panel : (e.setJournal j).panel = e.panel := rfl
@[simp] theorem setJournal_air : (e.setJournal j).air = e.air := rfl
@[simp] theorem setJournal_zones : (e.setJournal j).zones = e.zones := rfl
@[simp] theorem setJournal_crash : (e.setJournal j).crash = e.crash := rfl
@[simp] theorem setJournal_link : (e.setJournal j).link = e.link := rfl
@[simp] theorem setJournal_journal : (e.setJournal j).journal = j := rfl
@[simp] theorem setJournal_meas : (e.setJournal j).meas = e.meas := rfl
@[simp] theorem setJournal_order : (e.setJournal j).order = e.order := rfl
@[simp] theorem setJournal_sigs : (e.setJournal j).sigs = e.sigs := rfl
end setJournal

section setCfg
variable (u : ConfigUnit)
@[simp] theorem setCfg_pending : (e.setCfg u).pending = e.pending := rfl
@[simp] theorem setCfg_now : (e.setCfg u).now = e.now := rfl
@[simp] theorem setCfg_inReset : (e.setCfg u).inReset = e.inReset := rfl
@[simp] theorem setCfg_mem : (e.setCfg u).mem = e.mem := rfl
@[simp] theorem setCfg_uport : (e.setCfg u).uport = e.uport := rfl
@[simp] theorem setCfg_lastRead : (e.setCfg u).lastRead = e.lastRead := rfl
@[simp] theorem setCfg_path : (e.setCfg u).path = e.path := rfl
@[simp] theorem setCfg_ins : (e.setCfg u).ins = e.ins := rfl
@[simp] theorem setCfg_cfg : (e.setCfg u).cfg = u := rfl
@[simp] theorem setCfg_axes : (e.setCfg u).axes = e.axes := rfl
@[simp] theorem setCfg_budget : (e.setCfg u).budget = e.budget := rfl
@[simp] theorem setCfg_engine : (e.setCfg u).engine = e.engine := rfl
@[simp] theorem setCfg_panel : (e.setCfg u).panel = e.panel := rfl
@[simp] theorem setCfg_air : (e.setCfg u).air = e.air := rfl
@[simp] theorem setCfg_zones : (e.setCfg u).zones = e.zones := rfl
@[simp] theorem setCfg_crash : (e.setCfg u).crash = e.crash := rfl
@[simp] theorem setCfg_link : (e.setCfg u).link = e.link := rfl
@[simp] theorem setCfg_journal : (e.setCfg u).journal = e.journal := rfl
@[simp] theorem setCfg_meas : (e.setCfg u).meas = e.meas := rfl
@[simp] theorem setCfg_order : (e.setCfg u).order = e.order := rfl
@[simp] theorem setCfg_sigs : (e.setCfg u).sigs = e.sigs := rfl
end setCfg

section setPath
variable (p : Path)
@[simp] theorem setPath_pending : (e.setPath p).pending = e.pending := rfl
@[simp] theorem setPath_now : (e.setPath p).now = e.now := rfl
@[simp] theorem setPath_inReset : (e.setPath p).inReset = e.inReset := rfl
@[simp] theorem setPath_mem : (e.setPath p).mem = e.mem := rfl
@[simp] theorem setPath_uport : (e.setPath p).uport = e.uport := rfl
@[simp] theorem setPath_lastRead : (e.setPath p).lastRead = e.lastRead := rfl
@[simp] theorem setPath_path : (e.setPath p).path = p := rfl
@[simp] theorem setPath_ins : (e.setPath p).ins = e.ins := rfl
@[simp] theorem setPath_cfg : (e.setPath p).cfg = e.cfg := rfl
@[simp] theorem setPath_axes : (e.setPath p).axes = e.axes := rfl
@[simp] theorem setPath_budget : (e.setPath p).budget = e.budget := rfl
@[simp] theorem setPath_engine : (e.setPath p).engine = e.engine := rfl
@[simp] theorem setPath_panel : (e.setPath p).panel = e.panel := rfl
@[simp] theorem setPath_air : (e.setPath p).air = e.air := rfl
@[simp] theorem setPath_zones : (e.setPath p).zones = e.zones := rfl
@[simp] theorem setPath_crash : (e.setPath p).crash = e.crash := rfl
@[simp] theorem setPath_link : (e.setPath p).link = e.link := rfl
@[simp] theorem setPath_journal : (e.setPath p).journal = e.journal := rfl
@[simp] theorem setPath_meas : (e.setPath p).meas = e.meas := rfl
@[simp] theorem setPath_order : (e.setPath p).order = e.order := rfl
@[simp] theorem setPath_sigs : (e.setPath p).sigs = e.sigs := rfl
end setPath

section tell
variable (x : Sig)
@[simp] theorem tell_pending : (e.tell x).pending = e.pending := rfl
@[simp] theorem tell_now : (e.tell x).now = e.now := rfl
@[simp] theorem tell_inReset : (e.tell x).inReset = e.inReset := rfl
@[simp] theorem tell_mem : (e.tell x).mem = e.mem := rfl
@[simp] theorem tell_uport : (e.tell x).uport = e.uport := rfl
@[simp] theorem tell_lastRead : (e.tell x).lastRead = e.lastRead := rfl
@[simp] theorem tell_path : (e.tell x).path = e.path := rfl
@[simp] theorem tell_ins : (e.tell x).ins = e.ins := rfl
@[simp] theorem tell_cfg : (e.tell x).cfg = e.cfg := rfl
@[simp] theorem tell_axes : (e.tell x).axes = e.axes := rfl
@[simp] theorem tell_budget : (e.tell x).budget = e.budget := rfl
@[simp] theorem tell_engine : (e.tell x).engine = e.engine := rfl
@[simp] theorem tell_panel : (e.tell x).panel = e.panel := rfl
@[simp] theorem tell_air : (e.tell x).air = e.air := rfl
@[simp] theorem tell_zones : (e.tell x).zones = e.zones := rfl
@[simp] theorem tell_crash : (e.tell x).crash = e.crash := rfl
@[simp] theorem tell_link : (e.tell x).link = e.link := rfl
@[simp] theorem tell_journal : (e.tell x).journal = e.journal := rfl
@[simp] theorem tell_meas : (e.tell x).meas = e.meas := rfl
@[simp] theorem tell_order : (e.tell x).order = e.order := rfl
@[simp] theorem tell_sigs : (e.tell x).sigs = e.sigs ++ [x] := rfl
end tell

section due
variable (t : Nat)
@[simp] theorem due_pending : (e.due t).pending = e.pending := rfl
@[simp] theorem due_now : (e.due t).now = max e.now t := rfl
@[simp] theorem due_inReset : (e.due t).inReset = e.inReset := rfl
@[simp] theorem due_mem : (e.due t).mem = e.mem := rfl
@[simp] theorem due_uport : (e.due t).uport = e.uport := rfl
@[simp] theorem due_lastRead : (e.due t).lastRead = e.lastRead := rfl
@[simp] theorem due_path : (e.due t).path = e.path := rfl
@[simp] theorem due_ins : (e.due t).ins = e.ins := rfl
@[simp] theorem due_cfg : (e.due t).cfg = e.cfg := rfl
@[simp] theorem due_axes : (e.due t).axes = e.axes := rfl
@[simp] theorem due_budget : (e.due t).budget = e.budget := rfl
@[simp] theorem due_engine : (e.due t).engine = e.engine := rfl
@[simp] theorem due_panel : (e.due t).panel = e.panel := rfl
@[simp] theorem due_air : (e.due t).air = e.air := rfl
@[simp] theorem due_zones : (e.due t).zones = e.zones := rfl
@[simp] theorem due_crash : (e.due t).crash = e.crash := rfl
@[simp] theorem due_link : (e.due t).link = e.link := rfl
@[simp] theorem due_journal : (e.due t).journal = e.journal := rfl
@[simp] theorem due_meas : (e.due t).meas = e.meas := rfl
@[simp] theorem due_order : (e.due t).order = e.order := rfl
@[simp] theorem due_sigs : (e.due t).sigs = e.sigs := rfl
end due

section pass
variable (dt : Nat)
@[simp] theorem pass_pending : (e.pass dt).pending = e.pending := rfl
@[simp] theorem pass_now : (e.pass dt).now = e.now + dt := rfl
@[simp] theorem pass_inReset : (e.pass dt).inReset = e.inReset := rfl
@[simp] theorem pass_mem : (e.pass dt).mem = e.mem := rfl
@[simp] theorem pass_uport : (e.pass dt).uport = e.uport := rfl
@[simp] theorem pass_lastRead : (e.pass dt).lastRead = e.lastRead := rfl
@[simp] theorem pass_path : (e.pass dt).path = e.path := rfl
@[simp] theorem pass_ins : (e.pass dt).ins = e.ins := rfl
@[simp] theorem pass_cfg : (e.pass dt).cfg = e.cfg := rfl
@[simp] theorem pass_axes : (e.pass dt).axes = e.axes := rfl
@[simp] theorem pass_budget : (e.pass dt).budget = e.budget := rfl
@[simp] theorem pass_engine : (e.pass dt).engine = e.engine := rfl
@[simp] theorem pass_panel : (e.pass dt).panel = e.panel := rfl
@[simp] theorem pass_air : (e.pass dt).air = e.air := rfl
@[simp] theorem pass_zones : (e.pass dt).zones = e.zones := rfl
@[simp] theorem pass_crash : (e.pass dt).crash = e.crash := rfl
@[simp] theorem pass_link : (e.pass dt).link = e.link := rfl
@[simp] theorem pass_journal : (e.pass dt).journal = e.journal := rfl
@[simp] theorem pass_meas : (e.pass dt).meas = e.meas := rfl
@[simp] theorem pass_order : (e.pass dt).order = e.order := rfl
@[simp] theorem pass_sigs : (e.pass dt).sigs = e.sigs := rfl
end pass

section putWord
variable (a : Addr) (v : Word)
@[simp] theorem putWord_pending : (e.putWord a v).pending = e.pending := rfl
@[simp] theorem putWord_now : (e.putWord a v).now = e.now := rfl
@[simp] theorem putWord_inReset : (e.putWord a v).inReset = e.inReset := rfl
@[simp] theorem putWord_mem : (e.putWord a v).mem = Memory.write e.mem a.toNat v := rfl
@[simp] theorem putWord_uport : (e.putWord a v).uport = e.uport := rfl
@[simp] theorem putWord_lastRead : (e.putWord a v).lastRead = e.lastRead := rfl
@[simp] theorem putWord_path : (e.putWord a v).path = e.path := rfl
@[simp] theorem putWord_ins : (e.putWord a v).ins = e.ins := rfl
@[simp] theorem putWord_cfg : (e.putWord a v).cfg = e.cfg := rfl
@[simp] theorem putWord_axes : (e.putWord a v).axes = e.axes := rfl
@[simp] theorem putWord_budget : (e.putWord a v).budget = e.budget := rfl
@[simp] theorem putWord_engine : (e.putWord a v).engine = e.engine := rfl
@[simp] theorem putWord_panel : (e.putWord a v).panel = e.panel := rfl
@[simp] theorem putWord_air : (e.putWord a v).air = e.air := rfl
@[simp] theorem putWord_zones : (e.putWord a v).zones = e.zones := rfl
@[simp] theorem putWord_crash : (e.putWord a v).crash = e.crash := rfl
@[simp] theorem putWord_link : (e.putWord a v).link = e.link := rfl
@[simp] theorem putWord_journal : (e.putWord a v).journal = e.journal := rfl
@[simp] theorem putWord_meas : (e.putWord a v).meas = e.meas := rfl
@[simp] theorem putWord_order : (e.putWord a v).order = e.order := rfl
@[simp] theorem putWord_sigs : (e.putWord a v).sigs = e.sigs := rfl
end putWord

section offerRead
variable (p : Purpose) (a : Addr)
@[simp] theorem offerRead_pending : (e.offerRead p a).pending = e.pending := rfl
@[simp] theorem offerRead_now : (e.offerRead p a).now = e.now := rfl
@[simp] theorem offerRead_inReset : (e.offerRead p a).inReset = e.inReset := rfl
@[simp] theorem offerRead_mem : (e.offerRead p a).mem = e.mem := rfl
@[simp] theorem offerRead_uport : (e.offerRead p a).uport = e.uport := rfl
@[simp] theorem offerRead_lastRead : (e.offerRead p a).lastRead = e.lastRead := rfl
@[simp] theorem offerRead_path : (e.offerRead p a).path = e.path := rfl
@[simp] theorem offerRead_ins : (e.offerRead p a).ins = e.ins.offer ⟨p, false, a, 0, false, false⟩ := rfl
@[simp] theorem offerRead_cfg : (e.offerRead p a).cfg = e.cfg := rfl
@[simp] theorem offerRead_axes : (e.offerRead p a).axes = e.axes := rfl
@[simp] theorem offerRead_budget : (e.offerRead p a).budget = e.budget := rfl
@[simp] theorem offerRead_engine : (e.offerRead p a).engine = e.engine := rfl
@[simp] theorem offerRead_panel : (e.offerRead p a).panel = e.panel := rfl
@[simp] theorem offerRead_air : (e.offerRead p a).air = e.air := rfl
@[simp] theorem offerRead_zones : (e.offerRead p a).zones = e.zones := rfl
@[simp] theorem offerRead_crash : (e.offerRead p a).crash = e.crash := rfl
@[simp] theorem offerRead_link : (e.offerRead p a).link = e.link := rfl
@[simp] theorem offerRead_journal : (e.offerRead p a).journal = e.journal := rfl
@[simp] theorem offerRead_meas : (e.offerRead p a).meas = e.meas := rfl
@[simp] theorem offerRead_order : (e.offerRead p a).order = e.order := rfl
@[simp] theorem offerRead_sigs : (e.offerRead p a).sigs = e.sigs := rfl
end offerRead

section offerWrite
variable (p : Purpose) (a : Addr) (v : Word) (u : Bool)
@[simp] theorem offerWrite_pending : (e.offerWrite p a v u).pending = e.pending := rfl
@[simp] theorem offerWrite_now : (e.offerWrite p a v u).now = e.now := rfl
@[simp] theorem offerWrite_inReset : (e.offerWrite p a v u).inReset = e.inReset := rfl
@[simp] theorem offerWrite_mem : (e.offerWrite p a v u).mem = e.mem := rfl
@[simp] theorem offerWrite_uport : (e.offerWrite p a v u).uport = e.uport := rfl
@[simp] theorem offerWrite_lastRead : (e.offerWrite p a v u).lastRead = e.lastRead := rfl
@[simp] theorem offerWrite_path : (e.offerWrite p a v u).path = e.path := rfl
@[simp] theorem offerWrite_ins : (e.offerWrite p a v u).ins = e.ins.offer ⟨p, true, a, v, u, false⟩ := rfl
@[simp] theorem offerWrite_cfg : (e.offerWrite p a v u).cfg = e.cfg := rfl
@[simp] theorem offerWrite_axes : (e.offerWrite p a v u).axes = e.axes := rfl
@[simp] theorem offerWrite_budget : (e.offerWrite p a v u).budget = e.budget := rfl
@[simp] theorem offerWrite_engine : (e.offerWrite p a v u).engine = e.engine := rfl
@[simp] theorem offerWrite_panel : (e.offerWrite p a v u).panel = e.panel := rfl
@[simp] theorem offerWrite_air : (e.offerWrite p a v u).air = e.air := rfl
@[simp] theorem offerWrite_zones : (e.offerWrite p a v u).zones = e.zones := rfl
@[simp] theorem offerWrite_crash : (e.offerWrite p a v u).crash = e.crash := rfl
@[simp] theorem offerWrite_link : (e.offerWrite p a v u).link = e.link := rfl
@[simp] theorem offerWrite_journal : (e.offerWrite p a v u).journal = e.journal := rfl
@[simp] theorem offerWrite_meas : (e.offerWrite p a v u).meas = e.meas := rfl
@[simp] theorem offerWrite_order : (e.offerWrite p a v u).order = e.order := rfl
@[simp] theorem offerWrite_sigs : (e.offerWrite p a v u).sigs = e.sigs := rfl
end offerWrite

section finishAccess
@[simp] theorem finishAccess_pending : (e.finishAccess).pending = e.pending := rfl
@[simp] theorem finishAccess_now : (e.finishAccess).now = e.now := rfl
@[simp] theorem finishAccess_inReset : (e.finishAccess).inReset = e.inReset := rfl
@[simp] theorem finishAccess_mem : (e.finishAccess).mem = e.mem := rfl
@[simp] theorem finishAccess_uport : (e.finishAccess).uport = .idle := rfl
@[simp] theorem finishAccess_lastRead : (e.finishAccess).lastRead = e.lastRead := rfl
@[simp] theorem finishAccess_path : (e.finishAccess).path = e.path := rfl
@[simp] theorem finishAccess_ins : (e.finishAccess).ins = e.ins := rfl
@[simp] theorem finishAccess_cfg : (e.finishAccess).cfg = e.cfg := rfl
@[simp] theorem finishAccess_axes : (e.finishAccess).axes = e.axes := rfl
@[simp] theorem finishAccess_budget : (e.finishAccess).budget = e.budget := rfl
@[simp] theorem finishAccess_engine : (e.finishAccess).engine = e.engine := rfl
@[simp] theorem finishAccess_panel : (e.finishAccess).panel = e.panel := rfl
@[simp] theorem finishAccess_air : (e.finishAccess).air = e.air := rfl
@[simp] theorem finishAccess_zones : (e.finishAccess).zones = e.zones := rfl
@[simp] theorem finishAccess_crash : (e.finishAccess).crash = e.crash := rfl
@[simp] theorem finishAccess_link : (e.finishAccess).link = e.link := rfl
@[simp] theorem finishAccess_journal : (e.finishAccess).journal = e.journal := rfl
@[simp] theorem finishAccess_meas : (e.finishAccess).meas = e.meas := rfl
@[simp] theorem finishAccess_order : (e.finishAccess).order = e.order := rfl
@[simp] theorem finishAccess_sigs : (e.finishAccess).sigs = e.sigs := rfl
end finishAccess

section answerRead
variable (w : Word)
@[simp] theorem answerRead_pending : (e.answerRead w).pending = e.pending := rfl
@[simp] theorem answerRead_now : (e.answerRead w).now = e.now := rfl
@[simp] theorem answerRead_inReset : (e.answerRead w).inReset = e.inReset := rfl
@[simp] theorem answerRead_mem : (e.answerRead w).mem = e.mem := rfl
@[simp] theorem answerRead_uport : (e.answerRead w).uport = .idle := rfl
@[simp] theorem answerRead_lastRead : (e.answerRead w).lastRead = some w := rfl
@[simp] theorem answerRead_path : (e.answerRead w).path = e.path := rfl
@[simp] theorem answerRead_ins : (e.answerRead w).ins = e.ins := rfl
@[simp] theorem answerRead_cfg : (e.answerRead w).cfg = e.cfg := rfl
@[simp] theorem answerRead_axes : (e.answerRead w).axes = e.axes := rfl
@[simp] theorem answerRead_budget : (e.answerRead w).budget = e.budget := rfl
@[simp] theorem answerRead_engine : (e.answerRead w).engine = e.engine := rfl
@[simp] theorem answerRead_panel : (e.answerRead w).panel = e.panel := rfl
@[simp] theorem answerRead_air : (e.answerRead w).air = e.air := rfl
@[simp] theorem answerRead_zones : (e.answerRead w).zones = e.zones := rfl
@[simp] theorem answerRead_crash : (e.answerRead w).crash = e.crash := rfl
@[simp] theorem answerRead_link : (e.answerRead w).link = e.link := rfl
@[simp] theorem answerRead_journal : (e.answerRead w).journal = e.journal := rfl
@[simp] theorem answerRead_meas : (e.answerRead w).meas = e.meas := rfl
@[simp] theorem answerRead_order : (e.answerRead w).order = e.order := rfl
@[simp] theorem answerRead_sigs : (e.answerRead w).sigs = e.sigs := rfl
end answerRead

section forward
variable (a : Access)
@[simp] theorem forward_pending : (e.forward a).pending = e.pending := rfl
@[simp] theorem forward_now : (e.forward a).now = e.now := rfl
@[simp] theorem forward_inReset : (e.forward a).inReset = e.inReset := rfl
@[simp] theorem forward_mem : (e.forward a).mem = e.mem := rfl
@[simp] theorem forward_uport : (e.forward a).uport = .waiting a := rfl
@[simp] theorem forward_lastRead : (e.forward a).lastRead = e.lastRead := rfl
@[simp] theorem forward_path : (e.forward a).path = e.path := rfl
@[simp] theorem forward_ins : (e.forward a).ins = e.ins := rfl
@[simp] theorem forward_cfg : (e.forward a).cfg = e.cfg := rfl
@[simp] theorem forward_axes : (e.forward a).axes = e.axes := rfl
@[simp] theorem forward_budget : (e.forward a).budget = e.budget := rfl
@[simp] theorem forward_engine : (e.forward a).engine = e.engine := rfl
@[simp] theorem forward_panel : (e.forward a).panel = e.panel := rfl
@[simp] theorem forward_air : (e.forward a).air = e.air := rfl
@[simp] theorem forward_zones : (e.forward a).zones = e.zones := rfl
@[simp] theorem forward_crash : (e.forward a).crash = e.crash := rfl
@[simp] theorem forward_link : (e.forward a).link = e.link := rfl
@[simp] theorem forward_journal : (e.forward a).journal = e.journal := rfl
@[simp] theorem forward_meas : (e.forward a).meas = e.meas := rfl
@[simp] theorem forward_order : (e.forward a).order = e.order := rfl
@[simp] theorem forward_sigs : (e.forward a).sigs = e.sigs := rfl
end forward

section freePort
@[simp] theorem freePort_pending : (e.freePort).pending = e.pending := rfl
@[simp] theorem freePort_now : (e.freePort).now = e.now := rfl
@[simp] theorem freePort_inReset : (e.freePort).inReset = e.inReset := rfl
@[simp] theorem freePort_mem : (e.freePort).mem = e.mem := rfl
@[simp] theorem freePort_uport : (e.freePort).uport = e.uport := rfl
@[simp] theorem freePort_lastRead : (e.freePort).lastRead = e.lastRead := rfl
@[simp] theorem freePort_path : (e.freePort).path = e.path := rfl
@[simp] theorem freePort_ins : (e.freePort).ins = { e.ins with port := .free } := rfl
@[simp] theorem freePort_cfg : (e.freePort).cfg = e.cfg := rfl
@[simp] theorem freePort_axes : (e.freePort).axes = e.axes := rfl
@[simp] theorem freePort_budget : (e.freePort).budget = e.budget := rfl
@[simp] theorem freePort_engine : (e.freePort).engine = e.engine := rfl
@[simp] theorem freePort_panel : (e.freePort).panel = e.panel := rfl
@[simp] theorem freePort_air : (e.freePort).air = e.air := rfl
@[simp] theorem freePort_zones : (e.freePort).zones = e.zones := rfl
@[simp] theorem freePort_crash : (e.freePort).crash = e.crash := rfl
@[simp] theorem freePort_link : (e.freePort).link = e.link := rfl
@[simp] theorem freePort_journal : (e.freePort).journal = e.journal := rfl
@[simp] theorem freePort_meas : (e.freePort).meas = e.meas := rfl
@[simp] theorem freePort_order : (e.freePort).order = e.order := rfl
@[simp] theorem freePort_sigs : (e.freePort).sigs = e.sigs := rfl
end freePort

@[simp] theorem ev_toState (s : State) : s.ev.toState = s := rfl
@[simp] theorem ev_sigs (s : State) : s.ev.sigs = [] := rfl

end Sys2Proof.Machine
end

