-- ==== Sys2Proof/Laws/Events.lean ====
section
/-! SUPPORT. What the rest of an event can do after a command's own effect: where the blocks told have nothing to
do, the journal writer and the path decoder's queues may move on, and nothing else does. -/

namespace Sys2Proof.Machine

/-- The state with the journal writer, the insert queue and the work list replaced. -/
def Ev.withWriter (e : Ev) (j : Journal) (q : Inserts) (l : List Sig) : Ev :=
  { e with journal := j, ins := q, sigs := l }

/-- The state with the path decoder and the insert queue replaced. -/
def Ev.withQueues (e : Ev) (p : Path) (q : Inserts) : Ev := { e with path := p, ins := q }

/-- Nothing that is to be told has an effect outside the journal writer. -/
def Ev.calm (e : Ev) : Prop := ∀ x ∈ e.sigs, e.noEffect x = true

/-- What has no effect does not hang on the journal writer or the queues. -/
theorem noEffect_withWriter (e : Ev) (j : Journal) (q : Inserts) (l : List Sig) (x : Sig) :
    (e.withWriter j q l).noEffect x = e.noEffect x := by cases x <;> rfl

theorem noEffect_withQueues (e : Ev) (p : Path) (q : Inserts) (x : Sig) :
    (e.withQueues p q).noEffect x = e.noEffect x := by cases x <;> rfl

/-- A write of OVERRUN or HEADER_CHECK changes the writer and the insert queue alone. -/
theorem offerOverrun_spec (e : Ev) (r : Bool) : ∃ j q, e.offerOverrun r = e.withWriter j q e.sigs := by
  unfold Ev.offerOverrun Ev.offerHeaderCheck
  dsimp only
  split <;> exact ⟨_, _, rfl⟩

/-- The writer's turn changes the writer and the insert queue alone, and tells the writer alone. -/
theorem journalKick_spec (e : Ev) :
    ∃ j q l, e.journalKick = e.withWriter j q (e.sigs ++ l) ∧ ∀ x ∈ l, x = Sig.journal := by
  have nothing : ∀ x ∈ ([] : List Sig), x = Sig.journal := by simp
  have same : ∀ j q, e.withWriter j q e.sigs = e.withWriter j q (e.sigs ++ []) := by simp
  unfold Ev.journalKick
  dsimp only
  repeat' split
  all_goals first
    | exact ⟨e.journal, e.ins, [], (same _ _), nothing⟩
    | (obtain ⟨j, q, h⟩ := offerOverrun_spec e true; exact ⟨j, q, [], h.trans (same j q), nothing⟩)
    | exact ⟨_, _, [.journal], rfl, by simp⟩
    | exact ⟨_, _, [], same _ _, nothing⟩

/-- A recall that goes no further. -/
theorem recallStep_waits (e : Ev) (h : e.recallWaits = true) : e.recallStep = e := by
  unfold State.recallWaits at h
  unfold Ev.recallStep
  dsimp only
  split <;> rename_i hs <;> rw [hs] at h <;> simp_all

/-- A pump that nobody needs. -/
theorem pumpSync_idle (e : Ev) (h : e.noEffect .pump = true) : e.pumpSync = e := by
  simp only [State.noEffect, Bool.and_eq_true, Option.isNone_iff_eq_none, Bool.not_eq_true', beq_iff_eq] at h
  obtain ⟨⟨⟨h1, h2⟩, h3⟩, h4⟩ := h
  have h5 : e.pumpOn = false := by simp [State.pumpOn, h3]
  have same : ({ e with air := { e.air with overload := 0 } } : Ev) = e := by
    rw [← h4]
  have hf : e.fillAll = e := by
    unfold Ev.fillAll
    rw [if_neg (show ¬ e.air.granted = true by simp [h3])]
    dsimp only
    rw [if_neg (show ¬ e.pumpOn = true by simp [h5])]
    exact same
  simp only [Ev.pumpSync, h1, h2, hf]

/-- A block told something that has no effect. -/
theorem handle_noEffect (e : Ev) (x : Sig) (h : e.noEffect x = true) (hx : x ≠ .journal) : e.handle x = e := by
  cases x with
  | told c o => simp [State.noEffect] at h
  | axisEnd i m c p ms a =>
    simp only [State.noEffect, Bool.or_eq_true, beq_iff_eq] at h
    rcases h with rfl | rfl <;> rfl
  | axisParked i m =>
    simp only [State.noEffect, Bool.or_eq_true, beq_iff_eq] at h
    rcases h with rfl | rfl <;> rfl
  | journal => exact absurd rfl hx
  | pump => exact pumpSync_idle e h
  | recallStep => exact recallStep_waits e h
  | queuedRecall =>
    simp only [State.noEffect, Option.isNone_iff_eq_none] at h
    simp [Ev.handle, Ev.takeQueued, Ev.examineQueued, h]
  | profileCheck =>
    simp only [State.noEffect, Bool.or_eq_true, Bool.not_eq_true'] at h
    simp only [Ev.handle, Ev.beginCheck]
    rcases h with h | h
    · obtain ⟨c, hc⟩ := Option.isSome_iff_exists.mp h
      simp [hc]
    · have : allProfiles.find? (fun n => e.engine.profiles[n].mark == .pending) = none := by
        rw [List.find?_eq_none]
        intro n hn
        simpa using (List.any_eq_false.mp h) n hn
      rw [this]
      split <;> simp_all
  | crashStep =>
    simp only [State.noEffect, Bool.and_eq_true, bne_iff_ne, ne_eq] at h
    simp only [Ev.handle, Ev.crashStep]
    split <;> simp_all
  | riseEnd =>
    simp only [State.noEffect, bne_iff_ne, ne_eq] at h
    simp [Ev.handle, Ev.endRise, h]
  | massageStep =>
    simp only [State.noEffect, bne_iff_ne, ne_eq] at h
    simp [Ev.handle, Ev.massageStep, h]
  | massageMirror =>
    simp only [State.noEffect] at h
    simp [Ev.handle, Ev.mirrorMassage, h]
  | panel =>
    simp only [State.noEffect, beq_iff_eq] at h
    have same : e.setPanel { e.panel with shown := e.panelState } = e := by rw [← h]; rfl
    simp only [Ev.handle, Ev.panelSync, same]
    simp
  | zoneEnd z => simp [State.noEffect] at h

/-- Forgetting what the budget decided on a claim changes the work list alone. -/
@[simp] theorem forgetTold_toState (e : Ev) (c : Fin 15) : (e.forgetTold c).toState = e.toState := rfl

/-- What is still to be told after it is what was to be told, but for the decisions on that claim. -/
theorem mem_forgetTold (e : Ev) (c : Fin 15) (x : Sig) :
    x ∈ (e.forgetTold c).sigs ↔ x ∈ e.sigs ∧ x.tells c = false := by
  simp [Ev.forgetTold]

/-- With nothing to be told, nothing is forgotten. -/
theorem forgetTold_nil (e : Ev) (c : Fin 15) (h : e.sigs = []) : e.forgetTold c = e := by
  cases e; simp_all [Ev.forgetTold]

/-- Forgetting keeps a calm event calm. -/
theorem forgetTold_calm (e : Ev) (c : Fin 15) (h : e.calm) : (e.forgetTold c).calm :=
  fun x hx => h x ((mem_forgetTold e c x).mp hx).1

/-- A sample in FILL_WAIT does nothing where the maximum was not lowered, or the chamber is not above it. -/
theorem waitSample_keeps (e : Ev) (c : Fin 12) (lowered : Bool)
    (h : lowered = false ∨ e.air.chambers[c].pressure ≤ (e.chamberConf c).maxPressure) : e.waitSample c lowered = e := by
  unfold Ev.waitSample
  dsimp only
  split
  · rw [if_neg]
    rcases h with rfl | h
    · simp
    · simp only [Bool.and_eq_true, decide_eq_true_eq, not_and, Nat.not_lt]
      exact fun _ => h
  · rfl

/-- Otherwise the chamber settles to its present target. -/
theorem waitSample_settles (e : Ev) (c : Fin 12) (t : Nat) (ht : e.air.chambers[c].target = some t)
    (h : (e.chamberConf c).maxPressure < e.air.chambers[c].pressure) : e.waitSample c true = e.settle c t := by
  unfold Ev.waitSample
  dsimp only
  rw [ht]
  exact if_pos (by simpa using h)

/-- An axis that owes no crash marker owes none after a shadow write, and offers none with it. -/
theorem markersLeft_nil (a : Axis) (h : a.markerOwed = []) : a.markersLeft = [] ∧ a.markerDue = false := by
  simp [Axis.markersLeft, Axis.markerDue, h]

/-- While later shadow writes of an axis in PARKING are still to complete, one that completes only counts. -/
theorem parkingWritten_counts (e : Ev) (i : Fin 8) (hm : e.axes[i].markerOwed = []) (hl : 1 < e.axes[i].parkLeft) :
    e.parkingWritten i = e.setAxis i { e.axes[i] with parkLeft := e.axes[i].parkLeft - 1, markerOwed := [] } := by
  obtain ⟨h1, h2⟩ := markersLeft_nil _ hm
  unfold Ev.parkingWritten
  dsimp only
  rw [h1, h2, if_neg Bool.false_ne_true, if_neg]
  rw [decide_eq_false (Nat.not_le.mpr hl), Bool.and_false]
  exact Bool.false_ne_true

/-- Telling what has no effect changes the writer and the insert queue alone. -/
theorem drain_calm (n : Nat) (e : Ev) (h : e.calm) :
    ∃ j q l, e.drain n = e.withWriter j q l ∧ (e.withWriter j q l).calm := by
  induction n generalizing e with
  | zero => exact ⟨e.journal, e.ins, e.sigs, rfl, h⟩
  | succ n ih =>
    unfold Ev.drain
    split
    · exact ⟨e.journal, e.ins, e.sigs, rfl, h⟩
    · rename_i x rest hs
      have hrest : ∀ y ∈ rest, e.noEffect y = true := fun y hy => h y (by simp [hs, hy])
      by_cases hx : x = .journal
      · subst hx
        obtain ⟨j, q, l, hk, hl⟩ := journalKick_spec { e with sigs := rest }
        have hc : (Ev.withWriter { e with sigs := rest } j q (rest ++ l)).calm := by
          intro y hy
          rw [noEffect_withWriter]
          rcases List.mem_append.mp hy with hy | hy
          · exact hrest y hy
          · rw [hl y hy]; rfl
        obtain ⟨j', q', l', hd, hc'⟩ := ih _ hc
        exact ⟨j', q', l', by simp only [Ev.handle]; rw [hk, hd]; rfl, hc'⟩
      · have hx' : Ev.handle { e with sigs := rest } x = { e with sigs := rest } :=
          handle_noEffect _ x (by
            have := h x (by simp [hs])
            cases x <;> exact this) hx
        have hc : Ev.calm { e with sigs := rest } := fun y hy => by
          have := hrest y hy
          cases y <;> exact this
        obtain ⟨j', q', l', hd, hc'⟩ := ih _ hc
        exact ⟨j', q', l', by rw [hx', hd]; rfl, hc'⟩

/-- With nothing to be told, an event is not carried further. -/
theorem drain_nil (n : Nat) (e : Ev) (h : e.sigs = []) : e.drain n = e := by
  cases n <;> simp [Ev.drain, h]

/-- Catch-up reads change the path decoder and the insert queue alone. -/
theorem readListed_spec (old : State) (e : Ev) : ∃ p q, e.readListed old = e.withQueues p q := by
  unfold Ev.readListed
  generalize e.path.list.filter (fun x => old.toRead e.toState x) = l
  induction l generalizing e with
  | nil => exact ⟨e.path, e.ins, rfl⟩
  | cons x t ih =>
    obtain ⟨p, q, h⟩ := ih (e.catchUp x.addr)
    exact ⟨p, q, h.trans rfl⟩

/-- The start of a sweep changes the path decoder and the insert queue alone. -/
theorem sweepStart_spec (e : Ev) : ∃ p q, e.sweepStart = e.withQueues p q := by
  unfold Ev.sweepStart Ev.sweepFrom
  repeat' split
  all_goals exact ⟨_, _, rfl⟩

/-- With no write held, the owners' reports concern the catch-up list alone. -/
theorem reports_spec (old : State) (e : Ev) (h : e.uport.isHeld = false) :
    ∃ p q, e.reports old = e.withQueues p q := by
  unfold Ev.reports Ev.reofferHeld
  split
  · rename_i a v c t hu
    simp [hu, UPort.isHeld] at h
  all_goals exact readListed_spec old e

/-- The end of an event in which nothing told has an effect and no write is held: everything but the path decoder,
the insert queue and the journal writer stands. -/
theorem settled_spec (old : State) (e : Ev) (h : e.calm) (hu : e.uport.isHeld = false) :
    ∃ p q j l, e.settled old = ({ e with path := p, ins := q, journal := j, sigs := l } : Ev) := by
  obtain ⟨j, q, l, h1, hl⟩ := drain_calm drainBound e h
  have hu' : (e.withWriter j q l).uport.isHeld = false := hu
  obtain ⟨p, q2, h2⟩ := reports_spec old (e.withWriter j q l) hu'
  have h3' : ((e.withWriter j q l).withQueues p q2).calm := fun x hx => by
    rw [noEffect_withQueues]; exact hl x hx
  obtain ⟨j3, q3, l3, h3, -⟩ := drain_calm drainBound _ h3'
  obtain ⟨p4, q4, h4⟩ := sweepStart_spec (((e.withWriter j q l).withQueues p q2).withWriter j3 q3 l3)
  exact ⟨p4, q4, j3, l3, by unfold Ev.settled; simp only [h1, h2, h3, h4]; rfl⟩

/-- The end of an event in which nothing is told and no write is held: everything but the path decoder and the
insert queue stands. -/
theorem settled_nil (old : State) (e : Ev) (h : e.sigs = []) (hu : e.uport.isHeld = false) :
    ∃ p q, e.settled old = ({ e with path := p, ins := q } : Ev) := by
  obtain ⟨p, q, h2⟩ := reports_spec old e hu
  obtain ⟨p4, q4, h4⟩ := sweepStart_spec (e.withQueues p q)
  exact ⟨p4, q4, by
    unfold Ev.settled
    simp only [drain_nil _ e h, h2, drain_nil drainBound (e.withQueues p q) h, h4]
    rfl⟩

/-- An event with nothing told: its outcome agrees with its own effect. -/
theorem running_nil (s : State) (f : Ev → Ev) (hr : s.inReset = false) (h : (f s.ev).sigs = [])
    (hu : (f s.ev).uport.isHeld = false) :
    ∃ p q, s.running f =
      .next { (f s.ev).toState with path := p, ins := q, mem := s.mem, pending := s.pending } := by
  obtain ⟨p, q, h1⟩ := settled_nil s (f s.ev) h hu
  exact ⟨p, q, by simp [State.running, State.event, hr, h1]⟩

/-- An event in which nothing told has an effect: its outcome agrees with its own effect. -/
theorem running_calm (s : State) (f : Ev → Ev) (hr : s.inReset = false) (h : (f s.ev).calm)
    (hu : (f s.ev).uport.isHeld = false) :
    ∃ p q j, s.running f =
      .next { (f s.ev).toState with path := p, ins := q, journal := j, mem := s.mem, pending := s.pending } := by
  obtain ⟨p, q, j, l, h1⟩ := settled_spec s (f s.ev) h hu
  exact ⟨p, q, j, by simp [State.running, State.event, hr, h1]⟩

end Sys2Proof.Machine
end

