-- ==== Sys2Proof/Laws/Memory.lean ====
section
/-! SUPPORT. Image memory: reads after writes, and the canonical form. -/

namespace Sys2Proof.Machine

/-- The canonical form above a bound holds above a lower one. -/
theorem wfFrom_mono {m : List (Nat × Word)} {a b : Nat} (h : a ≤ b) (hm : Memory.wfFrom b m = true) :
    Memory.wfFrom a m = true := by
  cases m with
  | nil => rfl
  | cons x t =>
    simp only [Memory.wfFrom, Bool.and_eq_true, decide_eq_true_eq] at hm ⊢
    exact ⟨⟨h.trans hm.1.1, hm.1.2⟩, hm.2⟩

/-- A write at or above the bound keeps the canonical form. -/
theorem write_wfFrom (m : List (Nat × Word)) (b a : Nat) (v : Word) (hb : b ≤ a)
    (hm : Memory.wfFrom b m = true) : Memory.wfFrom b (Memory.write m a v) = true := by
  induction m generalizing b with
  | nil => by_cases hv : v = Config.unwritten <;> simp [Memory.write, Memory.wfFrom, hv, hb]
  | cons x t ih =>
    obtain ⟨c, w⟩ := x
    simp only [Memory.wfFrom, Bool.and_eq_true, decide_eq_true_eq] at hm
    obtain ⟨⟨hbc, hw⟩, ht⟩ := hm
    rcases Nat.lt_trichotomy a c with h | h | h
    · by_cases hv : v = Config.unwritten
      · simp [Memory.write, h, hv, Memory.wfFrom, hbc, hw, ht]
      · simp [Memory.write, h, hv, Memory.wfFrom, hb, hw, ht, Nat.succ_le_of_lt h]
    · subst h
      by_cases hv : v = Config.unwritten
      · simpa [Memory.write, hv] using wfFrom_mono (by omega) ht
      · simp [Memory.write, hv, Memory.wfFrom, hb, ht]
    · have := ih (c + 1) h ht
      simp [Memory.write, Nat.not_lt.mpr h.le, Nat.ne_of_gt h, Memory.wfFrom, hbc, hw, this]

/-- A write keeps the canonical form. -/
theorem write_wf (m : List (Nat × Word)) (a : Nat) (v : Word) (hm : Memory.wf m = true) :
    Memory.wf (Memory.write m a v) = true := write_wfFrom m 0 a v (Nat.zero_le a) hm

/-- An address below the bound of a canonical memory reads as unwritten. -/
theorem read_below {m : List (Nat × Word)} {b a : Nat} (h : a < b) (hm : Memory.wfFrom b m = true) :
    Memory.read m a = Config.unwritten := by
  induction m generalizing b with
  | nil => rfl
  | cons x t ih =>
    simp only [Memory.wfFrom, Bool.and_eq_true, decide_eq_true_eq] at hm
    have : a ≠ x.1 := by omega
    simp [Memory.read, this, ih (show a < x.1 + 1 by omega) hm.2]

/-- A read after a write of the same address. -/
theorem read_write_same (m : List (Nat × Word)) (b a : Nat) (v : Word) (hm : Memory.wfFrom b m = true) :
    Memory.read (Memory.write m a v) a = v := by
  induction m generalizing b with
  | nil => by_cases hv : v = Config.unwritten <;> simp [Memory.write, Memory.read, hv]
  | cons x t ih =>
    obtain ⟨c, w⟩ := x
    simp only [Memory.wfFrom, Bool.and_eq_true, decide_eq_true_eq] at hm
    rcases Nat.lt_trichotomy a c with h | h | h
    · by_cases hv : v = Config.unwritten
      · have hb : Memory.read t a = Config.unwritten := read_below (show a < c + 1 by omega) hm.2
        simp [Memory.write, h, hv, Memory.read, Nat.ne_of_lt h, hb]
      · simp [Memory.write, h, hv, Memory.read]
    · subst h
      by_cases hv : v = Config.unwritten
      · simpa [Memory.write, hv] using read_below (Nat.lt_succ_self a) hm.2
      · simp [Memory.write, hv, Memory.read]
    · simp [Memory.write, Nat.not_lt.mpr h.le, Nat.ne_of_gt h, Memory.read, ih (c + 1) hm.2]

/-- A write leaves every other address alone. -/
theorem read_write_other (m : List (Nat × Word)) {a b : Nat} (v : Word) (h : b ≠ a) :
    Memory.read (Memory.write m a v) b = Memory.read m b := by
  induction m with
  | nil => by_cases hv : v = Config.unwritten <;> simp [Memory.write, Memory.read, hv, h]
  | cons x t ih =>
    obtain ⟨c, w⟩ := x
    by_cases h1 : a < c
    · by_cases hv : v = Config.unwritten <;> simp [Memory.write, h1, hv, Memory.read, h]
    · by_cases h2 : a = c
      · subst h2
        by_cases hv : v = Config.unwritten <;> simp [Memory.write, hv, Memory.read, h]
      · by_cases h3 : b = c <;> simp [Memory.write, h1, h2, Memory.read, h3, ih]

end Sys2Proof.Machine
end

