-- ==== Sys2Proof/Laws/Offers.lean ====
section
/-! SUPPORT. What the path decoder does with a host write that reaches an owner (R6, R18, R40). -/

namespace Sys2Proof.Machine

/-- Cancelling the pending accesses of an address changes the path decoder and the insert queue alone (R18). -/
theorem cancelLate_spec (e : Ev) (a : Addr) : ∃ p q, e.cancelLate a = e.withQueues p q := by
  unfold Ev.cancelLate Ev.sweepOn Ev.sweepFrom
  dsimp only
  repeat' split
  all_goals exact ⟨_, _, rfl⟩

/-- Cancelling a neutral write changes the insert queue and the list of neutral writes alone (R40). -/
theorem cancelNeutral_spec (e : Ev) (c : CSlot) :
    ∃ q l n, e.cancelNeutral c = ({ e with ins := q, cfg := { e.cfg with neutralLeft := l, neutralNow := n } } : Ev) := by
  unfold Ev.cancelNeutral Ev.nextNeutral
  repeat' split
  all_goals exact ⟨_, _, _, rfl⟩

/-- A write that reaches the owner of a slot is offered to it (R2, R6). -/
theorem hostWrite_reaches (s : State) (a : Addr) (v : Word) (c : CSlot) (h : s.reaches a c) :
    s.ev.hostWrite a v = s.ev.offerSlot c a v := by
  obtain ⟨⟨hr, hw⟩, hu, hc, hg, hs⟩ := h
  have hl : (s.cfg.state == .loading) = false := by
    unfold State.working at hw; cases hst : s.cfg.state <;> simp_all
  have hf : s.fellBack = false := by
    unfold State.working at hw; unfold State.fellBack
    cases hst : s.cfg.state <;> simp_all
  unfold State.controlAt at hc
  unfold Ev.hostWrite Ev.arrive Ev.decode Ev.writeAt
  simp only [ev_toState, hu, hr, hl, hf, hg, hs]
  split at hc
  · rename_i r c' u hp
    split at hc
    · rename_i hfit
      cases hc
      simp [hp, hfit]
    · cases hc
  · cases hc

/-- A taken write: the owner acts on a state in which the write is forwarded and the accesses pending for the
address are gone (R6, R18, R40). -/
theorem takeWrite_spec (e : Ev) (c : CSlot) (a : Addr) (v : Word) :
    ∃ p q l n, e.takeWrite c a v =
      Ev.take { e with path := p, ins := q, uport := .waiting (.write a v .none),
                       cfg := { e.cfg with neutralLeft := l, neutralNow := n } } c v false := by
  obtain ⟨p, q, h1⟩ := cancelLate_spec e a
  obtain ⟨q2, l, n, h2⟩ := cancelNeutral_spec (e.withQueues p q) c
  exact ⟨p, q2, l, n, by unfold Ev.takeWrite; rw [h1, h2]; rfl⟩

/-- A refused write: the access is complete, its entries are handed, and the owner does nothing else (R6). -/
theorem refuseWrite_spec (e : Ev) (c : CSlot) (a : Addr) (v : Word) :
    ∃ p q l n, e.refuseWrite c a v =
      (Ev.ownRefusal { e with path := p, ins := q, uport := .idle,
                              cfg := { e.cfg with neutralLeft := l, neutralNow := n } } c v).refusal
        .refusedValue a v := by
  obtain ⟨p, q, h1⟩ := cancelLate_spec e a
  obtain ⟨q2, l, n, h2⟩ := cancelNeutral_spec (e.withQueues p q) c
  exact ⟨p, q2, l, n, by unfold Ev.refuseWrite; rw [h1, h2]; rfl⟩

end Sys2Proof.Machine
end

