-- ==== Sys2Proof/WellFormed.lean ====
section
/-! DEFINITION. Which commands an event of the part can spell: the operands in the ranges of their rows. -/

namespace Sys2Proof

/-- A command's operands lie in the range of its row. `exec` gives every term an answer all the same. -/
def Instr.wellFormed : Instr → Bool
  | .recall _ v => 1 ≤ v.toNat && v.toNat ≤ 4
  | .store _ v => 1 ≤ v.toNat && v.toNat ≤ 4
  | .massageStart _ p i => 1 ≤ p.toNat && p.toNat ≤ 8 && i.toNat ≤ 5
  | .massageStop _ i => i.toNat ≤ 5
  | .configWordWrite a _ => 0x3FF00 ≤ a.toNat && a.toNat ≤ 0x3FFFE
  | .climateArrival z (.heater _ _) => z.val < 4
  | .climateArrival z (.fan none) => 4 ≤ z.val
  | .climateArrival z (.fan (some p)) => 4 ≤ z.val && 0 < p && p ≤ 100000
  | .query b => 20 ≤ b && b ≤ 200
  | .linkReceiveError k _ => k != .idleTimeout
  | .reset _ | .resetEnd | .upstreamRead _ | .upstreamWrite _ _ | .upstreamAccessComplete
  | .holdTimerExpiry | .catchUpReadComplete | .sweepReadComplete | .dportGrant | .target _ _
  | .jogStop _ | .jogUpForward _ | .jogDownBack _ | .home _ | .duty _ _ | .limitLo _ _
  | .limitHi _ _ | .chamberTarget _ _ | .recallCancel _ | .panelEnable _ | .panelDisable _
  | .crashClear _ | .level _ _ | .readIndex _ _ | .configCheckWordWrite _
  | .profileCheckWordWrite _ _ | .validationReadComplete | .startUpReadComplete
  | .neutralWriteComplete | .markerWriteComplete | .parkingWriteComplete | .hallEdge _ _
  | .motorCurrentSample _ _ | .startBlankingEnd _ | .hallPeriodTimeout _ | .stallTimerExpiry _
  | .reversalDeadTimeEnd _ | .coastWindowEnd _ | .crashDeadTimeEnd _ | .restoreTimeReached _
  | .thermalRiseTick _ | .thermalFallTick _ | .supplySample _ | .waitLimitExpiry _
  | .profileCheckReadComplete | .storeWriteComplete | .recallReadComplete
  | .slotNeutralWriteComplete | .lineSample _ | .keyHoldTimerExpiry _ | .storeWindowExpiry
  | .pressureSample _ _ | .pumpCurrentSample _ | .patternFetchReadComplete
  | .massagePhaseTimerExpiry | .massageSessionExpiry | .massageMirrorWriteComplete
  | .stepDownExpiry _ | .levelMirrorWriteComplete | .linkReady | .arm | .pull _ | .release
  | .impact | .idleTimeout | .turnaroundEnd | .replyCancel | .replyAbandon | .replyEnd
  | .armHoldTimerExpiry | .pullTimerExpiry | .crashHoldTimerExpiry | .journalInitWriteComplete
  | .appendWriteComplete | .headerRefreshWriteComplete | .recountReadComplete
  | .syncFieldStart _ | .slinkEdge _ _ | .fieldReceived _ => true

end Sys2Proof
end

