-- ==== Sys2Proof/Laws/PerInstr.lean ====
section
/-! SUPPORT. The family SlotValue: a command that the opcode table gives for a range of values of a CONTROL slot
carries, if it is well formed, a value of that range (R64, R107, R121, R141, R179). -/

namespace Sys2Proof.Laws.SlotValue

open Sys2Proof.Machine

/-- The value a row of its own writes to its slot, where the row stands for a range of values. -/
def slotValue : Instr → Option Word
  | .jogStop _ | .recallCancel _ | .panelDisable _ => some 0
  | .jogUpForward _ | .panelEnable _ | .crashClear _ => some 1
  | .jogDownBack _ => some 2
  | .home _ => some 3
  | .recall _ v | .store _ v => some v
  | .massageStart _ p i => some (bytes i.toNat p.toNat)
  | .massageStop _ i => some (bytes i.toNat 0)
  | _ => none

/-- The range of the row. -/
def inRow : Instr → Word → Bool
  | .jogStop _, v | .recallCancel _, v | .panelDisable _, v => v == 0
  | .jogUpForward _, v | .panelEnable _, v | .crashClear _, v => v == 1
  | .jogDownBack _, v => v == 2
  | .home _, v => v == 3
  | .recall _ _, v | .store _ _, v => decide (1 ≤ v.toNat) && decide (v.toNat ≤ 4)
  | .massageStart _ _ _, v => decide (1 ≤ lo v) && decide (lo v ≤ 8) && decide (hi v ≤ 5)
  | .massageStop _ _, v => decide (lo v = 0) && decide (hi v ≤ 5)
  | _, _ => true

/-- A well-formed command carries a value of its row. -/
def Statement (i : Instr) : Prop := i.wellFormed = true → ∀ v, slotValue i = some v → inRow i v = true

theorem lo_bytes (h l : Nat) (hl : l < 256) : lo (bytes h l) = l := by
  simp only [lo, bytes, toWord, BitVec.toNat_ofNat]; omega

theorem hi_bytes (h l : Nat) (hh : h < 256) (hl : l < 256) : hi (bytes h l) = h := by
  simp only [hi, bytes, toWord, BitVec.toNat_ofNat]; omega

end Sys2Proof.Laws.SlotValue

namespace Sys2Proof.Laws

theorem SlotValue.reset (cause : ResetCause) : SlotValue.Statement (.reset cause) := by
  intro _ v hv
  cases hv

theorem SlotValue.resetEnd : SlotValue.Statement .resetEnd := by
  intro _ v hv
  cases hv

theorem SlotValue.upstreamRead (addr : Addr) : SlotValue.Statement (.upstreamRead addr) := by
  intro _ v hv
  cases hv

theorem SlotValue.upstreamWrite (addr : Addr) (value : Word) : SlotValue.Statement (.upstreamWrite addr value) := by
  intro _ v hv
  cases hv

theorem SlotValue.upstreamAccessComplete : SlotValue.Statement .upstreamAccessComplete := by
  intro _ v hv
  cases hv

theorem SlotValue.holdTimerExpiry : SlotValue.Statement .holdTimerExpiry := by
  intro _ v hv
  cases hv

theorem SlotValue.catchUpReadComplete : SlotValue.Statement .catchUpReadComplete := by
  intro _ v hv
  cases hv

theorem SlotValue.sweepReadComplete : SlotValue.Statement .sweepReadComplete := by
  intro _ v hv
  cases hv

theorem SlotValue.dportGrant : SlotValue.Statement .dportGrant := by
  intro _ v hv
  cases hv

theorem SlotValue.target (addr : Addr) (value : Word) : SlotValue.Statement (.target addr value) := by
  intro _ v hv
  cases hv

theorem SlotValue.jogStop (addr : Addr) : SlotValue.Statement (.jogStop addr) := by
  intro _ v hv
  cases hv
  rfl

theorem SlotValue.jogUpForward (addr : Addr) : SlotValue.Statement (.jogUpForward addr) := by
  intro _ v hv
  cases hv
  rfl

theorem SlotValue.jogDownBack (addr : Addr) : SlotValue.Statement (.jogDownBack addr) := by
  intro _ v hv
  cases hv
  rfl

theorem SlotValue.home (addr : Addr) : SlotValue.Statement (.home addr) := by
  intro _ v hv
  cases hv
  rfl

theorem SlotValue.duty (addr : Addr) (value : Word) : SlotValue.Statement (.duty addr value) := by
  intro _ v hv
  cases hv

theorem SlotValue.limitLo (addr : Addr) (value : Word) : SlotValue.Statement (.limitLo addr value) := by
  intro _ v hv
  cases hv

theorem SlotValue.limitHi (addr : Addr) (value : Word) : SlotValue.Statement (.limitHi addr value) := by
  intro _ v hv
  cases hv

theorem SlotValue.chamberTarget (addr : Addr) (value : Word) : SlotValue.Statement (.chamberTarget addr value) := by
  intro _ v hv
  cases hv

theorem SlotValue.recall (addr : Addr) (value : Word) : SlotValue.Statement (.recall addr value) := by
  intro h v hv
  cases hv
  simpa [Instr.wellFormed, SlotValue.inRow] using h

theorem SlotValue.recallCancel (addr : Addr) : SlotValue.Statement (.recallCancel addr) := by
  intro _ v hv
  cases hv
  rfl

theorem SlotValue.store (addr : Addr) (value : Word) : SlotValue.Statement (.store addr value) := by
  intro h v hv
  cases hv
  simpa [Instr.wellFormed, SlotValue.inRow] using h

theorem SlotValue.massageStart (addr : Addr) (pattern : Byte) (intensity : Byte) : SlotValue.Statement (.massageStart addr pattern intensity) := by
  intro h v hv
  cases hv
  simp only [Instr.wellFormed, Bool.and_eq_true, decide_eq_true_eq] at h
  simp [SlotValue.inRow, SlotValue.lo_bytes _ _ pattern.isLt, SlotValue.hi_bytes _ _ intensity.isLt pattern.isLt, h]

theorem SlotValue.massageStop (addr : Addr) (intensity : Byte) : SlotValue.Statement (.massageStop addr intensity) := by
  intro h v hv
  cases hv
  simp only [Instr.wellFormed, decide_eq_true_eq] at h
  simp [SlotValue.inRow, SlotValue.lo_bytes _ 0 (by omega), SlotValue.hi_bytes _ 0 intensity.isLt (by omega), h]

theorem SlotValue.panelEnable (addr : Addr) : SlotValue.Statement (.panelEnable addr) := by
  intro _ v hv
  cases hv
  rfl

theorem SlotValue.panelDisable (addr : Addr) : SlotValue.Statement (.panelDisable addr) := by
  intro _ v hv
  cases hv
  rfl

theorem SlotValue.crashClear (addr : Addr) : SlotValue.Statement (.crashClear addr) := by
  intro _ v hv
  cases hv
  rfl

theorem SlotValue.level (addr : Addr) (value : Word) : SlotValue.Statement (.level addr value) := by
  intro _ v hv
  cases hv

theorem SlotValue.readIndex (addr : Addr) (value : Word) : SlotValue.Statement (.readIndex addr value) := by
  intro _ v hv
  cases hv

theorem SlotValue.configCheckWordWrite (value : Word) : SlotValue.Statement (.configCheckWordWrite value) := by
  intro _ v hv
  cases hv

theorem SlotValue.configWordWrite (addr : Addr) (value : Word) : SlotValue.Statement (.configWordWrite addr value) := by
  intro _ v hv
  cases hv

theorem SlotValue.profileCheckWordWrite (addr : Addr) (value : Word) : SlotValue.Statement (.profileCheckWordWrite addr value) := by
  intro _ v hv
  cases hv

theorem SlotValue.validationReadComplete : SlotValue.Statement .validationReadComplete := by
  intro _ v hv
  cases hv

theorem SlotValue.startUpReadComplete : SlotValue.Statement .startUpReadComplete := by
  intro _ v hv
  cases hv

theorem SlotValue.neutralWriteComplete : SlotValue.Statement .neutralWriteComplete := by
  intro _ v hv
  cases hv

theorem SlotValue.markerWriteComplete : SlotValue.Statement .markerWriteComplete := by
  intro _ v hv
  cases hv

theorem SlotValue.parkingWriteComplete : SlotValue.Statement .parkingWriteComplete := by
  intro _ v hv
  cases hv

theorem SlotValue.hallEdge (axis : Fin 8) (dt : Nat) : SlotValue.Statement (.hallEdge axis dt) := by
  intro _ v hv
  cases hv

theorem SlotValue.motorCurrentSample (axis : Fin 8) (sample : Word) : SlotValue.Statement (.motorCurrentSample axis sample) := by
  intro _ v hv
  cases hv

theorem SlotValue.startBlankingEnd (axis : Fin 8) : SlotValue.Statement (.startBlankingEnd axis) := by
  intro _ v hv
  cases hv

theorem SlotValue.hallPeriodTimeout (axis : Fin 8) : SlotValue.Statement (.hallPeriodTimeout axis) := by
  intro _ v hv
  cases hv

theorem SlotValue.stallTimerExpiry (axis : Fin 8) : SlotValue.Statement (.stallTimerExpiry axis) := by
  intro _ v hv
  cases hv

theorem SlotValue.reversalDeadTimeEnd (axis : Fin 8) : SlotValue.Statement (.reversalDeadTimeEnd axis) := by
  intro _ v hv
  cases hv

theorem SlotValue.coastWindowEnd (axis : Fin 8) : SlotValue.Statement (.coastWindowEnd axis) := by
  intro _ v hv
  cases hv

theorem SlotValue.crashDeadTimeEnd (axis : Fin 8) : SlotValue.Statement (.crashDeadTimeEnd axis) := by
  intro _ v hv
  cases hv

theorem SlotValue.restoreTimeReached (axis : Fin 8) : SlotValue.Statement (.restoreTimeReached axis) := by
  intro _ v hv
  cases hv

theorem SlotValue.thermalRiseTick (axis : Fin 8) : SlotValue.Statement (.thermalRiseTick axis) := by
  intro _ v hv
  cases hv

theorem SlotValue.thermalFallTick (axis : Fin 8) : SlotValue.Statement (.thermalFallTick axis) := by
  intro _ v hv
  cases hv

theorem SlotValue.supplySample (sample : Word) : SlotValue.Statement (.supplySample sample) := by
  intro _ v hv
  cases hv

theorem SlotValue.waitLimitExpiry (claimant : Fin 15) : SlotValue.Statement (.waitLimitExpiry claimant) := by
  intro _ v hv
  cases hv

theorem SlotValue.profileCheckReadComplete : SlotValue.Statement .profileCheckReadComplete := by
  intro _ v hv
  cases hv

theorem SlotValue.storeWriteComplete : SlotValue.Statement .storeWriteComplete := by
  intro _ v hv
  cases hv

theorem SlotValue.recallReadComplete : SlotValue.Statement .recallReadComplete := by
  intro _ v hv
  cases hv

theorem SlotValue.slotNeutralWriteComplete : SlotValue.Statement .slotNeutralWriteComplete := by
  intro _ v hv
  cases hv

theorem SlotValue.lineSample (closed : BitVec 6) : SlotValue.Statement (.lineSample closed) := by
  intro _ v hv
  cases hv

theorem SlotValue.keyHoldTimerExpiry (key : Fin 30) : SlotValue.Statement (.keyHoldTimerExpiry key) := by
  intro _ v hv
  cases hv

theorem SlotValue.storeWindowExpiry : SlotValue.Statement .storeWindowExpiry := by
  intro _ v hv
  cases hv

theorem SlotValue.pressureSample (chamber : Fin 12) (sample : Word) : SlotValue.Statement (.pressureSample chamber sample) := by
  intro _ v hv
  cases hv

theorem SlotValue.pumpCurrentSample (sample : Word) : SlotValue.Statement (.pumpCurrentSample sample) := by
  intro _ v hv
  cases hv

theorem SlotValue.patternFetchReadComplete : SlotValue.Statement .patternFetchReadComplete := by
  intro _ v hv
  cases hv

theorem SlotValue.massagePhaseTimerExpiry : SlotValue.Statement .massagePhaseTimerExpiry := by
  intro _ v hv
  cases hv

theorem SlotValue.massageSessionExpiry : SlotValue.Statement .massageSessionExpiry := by
  intro _ v hv
  cases hv

theorem SlotValue.massageMirrorWriteComplete : SlotValue.Statement .massageMirrorWriteComplete := by
  intro _ v hv
  cases hv

theorem SlotValue.climateArrival (zone : Fin 6) (data : Arrival) : SlotValue.Statement (.climateArrival zone data) := by
  intro _ v hv
  cases hv

theorem SlotValue.stepDownExpiry (zone : Fin 6) : SlotValue.Statement (.stepDownExpiry zone) := by
  intro _ v hv
  cases hv

theorem SlotValue.levelMirrorWriteComplete : SlotValue.Statement .levelMirrorWriteComplete := by
  intro _ v hv
  cases hv

theorem SlotValue.linkReady : SlotValue.Statement .linkReady := by
  intro _ v hv
  cases hv

theorem SlotValue.arm : SlotValue.Statement .arm := by
  intro _ v hv
  cases hv

theorem SlotValue.pull (severity : Byte) : SlotValue.Statement (.pull severity) := by
  intro _ v hv
  cases hv

theorem SlotValue.release : SlotValue.Statement .release := by
  intro _ v hv
  cases hv

theorem SlotValue.impact : SlotValue.Statement .impact := by
  intro _ v hv
  cases hv

theorem SlotValue.query (bitTime : Nat) : SlotValue.Statement (.query bitTime) := by
  intro _ v hv
  cases hv

theorem SlotValue.linkReceiveError (kind : LinkError) (detail : Word) : SlotValue.Statement (.linkReceiveError kind detail) := by
  intro _ v hv
  cases hv

theorem SlotValue.idleTimeout : SlotValue.Statement .idleTimeout := by
  intro _ v hv
  cases hv

theorem SlotValue.turnaroundEnd : SlotValue.Statement .turnaroundEnd := by
  intro _ v hv
  cases hv

theorem SlotValue.replyCancel : SlotValue.Statement .replyCancel := by
  intro _ v hv
  cases hv

theorem SlotValue.replyAbandon : SlotValue.Statement .replyAbandon := by
  intro _ v hv
  cases hv

theorem SlotValue.replyEnd : SlotValue.Statement .replyEnd := by
  intro _ v hv
  cases hv

theorem SlotValue.armHoldTimerExpiry : SlotValue.Statement .armHoldTimerExpiry := by
  intro _ v hv
  cases hv

theorem SlotValue.pullTimerExpiry : SlotValue.Statement .pullTimerExpiry := by
  intro _ v hv
  cases hv

theorem SlotValue.crashHoldTimerExpiry : SlotValue.Statement .crashHoldTimerExpiry := by
  intro _ v hv
  cases hv

theorem SlotValue.journalInitWriteComplete : SlotValue.Statement .journalInitWriteComplete := by
  intro _ v hv
  cases hv

theorem SlotValue.appendWriteComplete : SlotValue.Statement .appendWriteComplete := by
  intro _ v hv
  cases hv

theorem SlotValue.headerRefreshWriteComplete : SlotValue.Statement .headerRefreshWriteComplete := by
  intro _ v hv
  cases hv

theorem SlotValue.recountReadComplete : SlotValue.Statement .recountReadComplete := by
  intro _ v hv
  cases hv

theorem SlotValue.syncFieldStart (dt : Nat) : SlotValue.Statement (.syncFieldStart dt) := by
  intro _ v hv
  cases hv

theorem SlotValue.slinkEdge (dt : Nat) (rising : Bool) : SlotValue.Statement (.slinkEdge dt rising) := by
  intro _ v hv
  cases hv

theorem SlotValue.fieldReceived (byte : Byte) : SlotValue.Statement (.fieldReceived byte) := by
  intro _ v hv
  cases hv

end Sys2Proof.Laws
end

