-- ==== Sys2Proof/Laws/Queues.lean ====
section
/-! SUPPORT. The bounded queues of the part: the insert queue (R23), the catch-up list (R16), the staging queue
(R181), and what their operations keep. -/

namespace Sys2Proof.Machine

/-! ## The insert queue -/

/-- An access that waits leaves the queue, the port and the pass-over count alone. -/
theorem await_spec (q : Inserts) (c : Cycle) :
    (q.await c).port = q.port ∧ (q.await c).passOver = q.passOver ∧ (q.await c).queue = q.queue := by
  unfold Inserts.await
  split <;> exact ⟨rfl, rfl, rfl⟩

/-- An offer leaves the port and the pass-over count alone, and the queue within its places. -/
theorem offer_spec (q : Inserts) (c : Cycle) :
    (q.offer c).port = q.port ∧ (q.offer c).passOver = q.passOver ∧
      (q.queue.length ≤ queueSize → (q.offer c).queue.length ≤ queueSize) := by
  unfold Inserts.offer
  split
  · rename_i h
    refine ⟨rfl, rfl, fun _ => ?_⟩
    simpa using h
  · obtain ⟨h1, h2, h3⟩ := await_spec q c
    exact ⟨h1, h2, fun h => h3 ▸ h⟩

/-- Offering the next accesses leaves the queue, the port and the pass-over count alone. -/
theorem offerNext_spec (q : Inserts) :
    q.offerNext.port = q.port ∧ q.offerNext.passOver = q.passOver ∧ q.offerNext.queue = q.queue := by
  have fold : ∀ (l : List Cycle) (r : Inserts), (l.foldl Inserts.await r).port = r.port ∧
      (l.foldl Inserts.await r).passOver = r.passOver ∧ (l.foldl Inserts.await r).queue = r.queue := by
    intro l
    induction l with
    | nil => exact fun r => ⟨rfl, rfl, rfl⟩
    | cons c t ih =>
      intro r
      obtain ⟨h1, h2, h3⟩ := ih (r.await c)
      obtain ⟨g1, g2, g3⟩ := await_spec r c
      exact ⟨h1.trans g1, h2.trans g2, h3.trans g3⟩
  exact fold q.behind { q with behind := [] }

/-- An admission leaves the port and the pass-over count alone, and the queue within its places. -/
theorem admitOne_spec (q : Inserts) :
    q.admitOne.port = q.port ∧ q.admitOne.passOver = q.passOver ∧
      (q.queue.length ≤ queueSize → q.admitOne.queue.length ≤ queueSize) := by
  unfold Inserts.admitOne
  split
  · exact ⟨rfl, rfl, id⟩
  · rename_i hn
    split
    · exact ⟨rfl, rfl, id⟩
    · rename_i c rest _
      obtain ⟨h1, h2, h3⟩ := offerNext_spec { q with queue := q.queue ++ [c], waiting := rest }
      refine ⟨h1, h2, fun _ => ?_⟩
      rw [h3]
      simp
      omega

/-- Filling the freed places leaves the port and the pass-over count alone, and the queue within its places. -/
theorem admit_spec (n : Nat) (q : Inserts) :
    (q.admitAll n).port = q.port ∧ (q.admitAll n).passOver = q.passOver ∧
      (q.queue.length ≤ queueSize → (q.admitAll n).queue.length ≤ queueSize) := by
  induction n generalizing q with
  | zero => exact ⟨rfl, rfl, id⟩
  | succ n ih =>
    obtain ⟨h1, h2, h3⟩ := ih q.admitOne
    obtain ⟨g1, g2, g3⟩ := admitOne_spec q
    exact ⟨h1.trans g1, h2.trans g2, fun h => h3 (g3 h)⟩

/-- A withdrawal leaves the port alone, and the queue within its places. -/
theorem withdraw_spec (q : Inserts) (p : Cycle → Bool) :
    (q.withdraw p).port = q.port ∧ (q.queue.length ≤ queueSize → (q.withdraw p).queue.length ≤ queueSize) := by
  unfold Inserts.withdraw
  dsimp only
  refine ⟨(admit_spec _ _).1.trans (offerNext_spec _).1, fun h => (admit_spec _ _).2.2 ?_⟩
  rw [(offerNext_spec _).2.2]
  exact (List.length_filter_le _ _).trans h

/-! ## The catch-up list -/

/-- Recording a late write keeps the list good (R13). -/
theorem record_listGood (p : Path) (a : Addr) (h : p.listGood) : (p.record a).listGood := by
  unfold Path.record
  split
  · exact h
  · rename_i hl
    split
    · rename_i hs
      refine ⟨by simpa using hs, ?_⟩
      have hn : a ∉ p.list.map (·.addr) := by
        intro hm
        obtain ⟨x, hx, hxa⟩ := List.mem_map.mp hm
        exact hl (List.any_eq_true.mpr ⟨x, hx, beq_iff_eq.mpr hxa⟩)
      rw [List.map_append]
      refine List.Nodup.append h.2 (List.nodup_singleton a) fun x hx hy => ?_
      rw [List.map_singleton, List.mem_singleton] at hy
      exact hn (show a ∈ _ from (show x = a from hy) ▸ hx)
    · split <;> exact h

/-- Taking an address off the list keeps it good. -/
theorem unlist_listGood (p : Path) (a : Addr) (h : p.listGood) : (p.unlist a).listGood := by
  refine ⟨(List.length_filter_le _ _).trans h.1, ?_⟩
  exact (List.Sublist.map _ (List.filter_sublist)).nodup h.2

/-! ## The staging queue -/

/-- Removing the oldest entry that is not of class CRASH takes one away. -/
theorem dropNonCrash_length {l r : List Entry} (h : dropNonCrash l = some r) : r.length + 1 = l.length := by
  induction l generalizing r with
  | nil => simp [dropNonCrash] at h
  | cons x t ih =>
    unfold dropNonCrash at h
    split at h
    · obtain ⟨u, hu, rfl⟩ := Option.map_eq_some_iff.mp h
      simp [ih hu]
    · cases h; rfl

/-- The staging queue holds up to eight entries (R181). -/
theorem stage_length (j : Journal) (x : Entry) (h : j.staging.length ≤ 8) : (j.stage x).staging.length ≤ 8 := by
  have lose_staging : ∀ k : Journal, k.lose.staging = k.staging := fun k => by
    unfold Journal.lose; split <;> rfl
  unfold Journal.stage
  split
  · simpa using by omega
  · split
    · dsimp only
      split
      · rename_i rest hr
        have hl := dropNonCrash_length hr
        rw [lose_staging]
        by_cases ha : j.appending <;> simp [ha] at hl ⊢ <;> omega
      · rw [lose_staging]; exact h
    · rw [lose_staging]; exact h

end Sys2Proof.Machine
end

