-- ==== Sys2Proof/Tests/Slice0.lean ====
section
/-! SUPPORT. Tests: ill-formed commands, worked values of the spec, single steps on a small part, and for every
obligation with hypotheses a state and operands that meet them. -/

namespace Sys2Proof.Tests

open Sys2Proof Sys2Proof.Machine

/-! ## A small part at work -/

/-- Axes 0 and 1, chambers 0 to 3, heaters 0 and 1 and fan 4 are fitted; axis 0 alone has a crash role. -/
def axisConf (crash : Bool) : AxisConf :=
  { fitted := true, crashDir := .upForward, stroke := 20000, thermalLimit := 100, crashTarget := 12000,
    current := 8, pinchThreshold := 4, stallWindow := 200, rank := 0, backOff := 60, pinchDirs := .both,
    crashPull := crash }

def zoneConf : ZoneConf :=
  { fitted := true, current := 4, target1 := 320, target2 := 370, target3 := 420, overTemp := 650, ntcGain := 26,
    confirm := 5, ntcOffset := 6680, mask := 0x1F, pair := none, stepDown := 30 }

def conf : Conf :=
  { Conf.none with
    windows := ⟨⟨0x00400, 0x3FFC0⟩, ⟨0x01000, 0x3FF80⟩, ⟨0x02000, 0x3FC00⟩, ⟨0x00800, 0x3FFC0⟩, ⟨0x03000, 0x3FF80⟩,
      ⟨0x04000, 0x3FE00⟩⟩,
    axes := ((Vector.replicate 8 AxisConf.unfitted).set 0 (axisConf true)).set 1 (axisConf false),
    chambers := (((Vector.replicate 12 ChamberConf.unfitted).set 0 ⟨true, .posture, 500, .none, 20, 0⟩).set 1
      ⟨true, .shared, 500, .none, 20, 0⟩).set 2 ⟨true, .massage, 500, .none, 20, 0⟩,
    zones := (((Vector.replicate 6 ZoneConf.unfitted).set 0 zoneConf).set 1 zoneConf).set 4
      { zoneConf with current := 2, target1 := 40, target2 := 70, target3 := 100 },
    pumpCurrent := 6, totalCap := 60, motorCap := 40, reducedCap := 30, sagThreshold := 90, notify := 0x7F }

/-- ACTIVE under that configuration, everything at rest, nothing in the queues. -/
def base : State :=
  { State.reset with
    inReset := false, now := 1000000,
    cfg := { ConfigUnit.reset .por with state := .active, inForce := some conf },
    path := { State.reset.path with table := tableOf conf.windows },
    axes := Vector.replicate 8 { Axis.reset with referenced := true, count := 5000, limitHi := 19960 },
    budget := { Budget.reset with effective := 60, table := Vector.replicate 15 { Claim.reset with units := 4 } },
    air := { Air.reset with chambers := Vector.replicate 12 { Chamber.reset with owner := .posture, sample := some 100 } },
    panel := { Panel.reset with shown := .normal },
    crash := { Crash.reset with state := .idle },
    link := { Link.reset with ready := true },
    journal := { Journal.reset with ring := .ready } }

/-- The part with axis 0, chamber 0, zone 0 or the state of another block changed. -/
def withAxis (f : Axis → Axis) : State := { base with axes := base.axes.set 0 (f base.axes[0]) }
def withChamber (f : Chamber → Chamber) : State :=
  { base with air := { base.air with chambers := base.air.chambers.set 0 (f base.air.chambers[0]) } }
def withZone (z : Fin 6) (f : Zone → Zone) : State := { base with zones := base.zones.set z (f base.zones[z]) }
def withMassage (f : Massage → Massage) : State := { base with air := { base.air with massage := f base.air.massage } }
def withLink (f : Link → Link) : State := { base with link := f base.link }
def withCrash (f : Crash → Crash) : State := { base with crash := f base.crash }

/-- A state with an inserted cycle of a purpose on the D-port. -/
def carrying (s : State) (p : Purpose) (w : Word) : State :=
  { s with ins := { s.ins with port := .inserted ⟨p, false, 0, 0, false, false⟩ w } }

/-- A state in which the upstream access has been forwarded. -/
def forwarding (s : State) (a : Access) : State := { s with uport := .waiting a }

/-- The claim of axis 0 granted. -/
def granted (s : State) : State :=
  { s with budget := { s.budget with table := s.budget.table.set 0 ⟨.granted, 8, some .motion, .limited2s, none, 1⟩ } }

/-- Axis 0 drives toward a goal for the host. -/
def moving (g : Goal) (f : Axis → Axis) : State :=
  granted (withAxis (fun a => f { a with
    state := .running, mover := some .image, goal := some g, owed := some g, grant := .held,
    drive := some .upForward, driveSince := 900000, stallAt := some 1100000, current := some 10 }))

/-- Axis 0 has both baselines: period 2 ms, 5 units. -/
def baselined : State :=
  moving (.target 9000) (fun a => { a with hallBase := some 2000, currentBase := some 5, lastEdge := some 999000 })

/-- LOCKED, with the crash hold and the panel disabled. -/
def locked : State :=
  { withCrash (fun c => { c with state := .locked, drops := 3 }) with
    budget := { base.budget with crashHold := true }, panel := { base.panel with shown := .disabled } }

/-- The axis 0 waits for its grant. -/
def waitingClaim : State :=
  { withAxis (fun a => { a with state := .starting, mover := some .image, goal := some .home, owed := some .home,
                                grant := .claimed }) with
    budget := { base.budget with
      queue := [0], table := base.budget.table.set 0 ⟨.waiting, 8, some .motion, .limited2s, some 900000, 0⟩ } }

/-- A validation from ACTIVE that has read `n` words. -/
def validating (n : Nat) : State :=
  { base with cfg := { base.cfg with state := .validating, origin := some .active,
                                     candidate := List.replicate n 0 } }

/-- The cycle that `carrying` puts on the D-port. -/
def cyc (p : Purpose) : Cycle := ⟨p, false, 0, 0, false, false⟩

/-! ## Ill-formed commands -/

theorem test_recall_of_profile_5_refused : Instr.wellFormed (.recall 0 5) = false := by decide
theorem test_store_of_profile_0_refused : Instr.wellFormed (.store 0 0) = false := by decide
theorem test_massage_pattern_9_refused : Instr.wellFormed (.massageStart 0 9 3) = false := by decide
theorem test_massage_pattern_0_refused : Instr.wellFormed (.massageStart 0 0 3) = false := by decide
theorem test_massage_intensity_6_refused : Instr.wellFormed (.massageStop 0 6) = false := by decide
theorem test_config_word_below_block_refused : Instr.wellFormed (.configWordWrite 0x3FEFF 1) = false := by decide
theorem test_config_word_at_check_refused : Instr.wellFormed (.configWordWrite 0x3FFFF 1) = false := by decide
theorem test_heater_arrival_of_fan_refused : Instr.wellFormed (.climateArrival 4 (.heater 1 1)) = false := by decide
theorem test_fan_arrival_of_heater_refused : Instr.wellFormed (.climateArrival 3 (.fan none)) = false := by decide
theorem test_fan_period_0_refused : Instr.wellFormed (.climateArrival 5 (.fan (some 0))) = false := by decide
theorem test_fan_period_too_long_refused : Instr.wellFormed (.climateArrival 5 (.fan (some 100001))) = false := by decide
theorem test_query_bit_time_19_refused : Instr.wellFormed (.query 19) = false := by decide
theorem test_query_bit_time_201_refused : Instr.wellFormed (.query 201) = false := by decide
theorem test_idle_timeout_is_a_row_of_its_own : Instr.wellFormed (.linkReceiveError .idleTimeout 0) = false := by decide
theorem test_well_formed_terms : Instr.wellFormed (.recall 0x400 1) = true ∧ Instr.wellFormed (.store 0x401 4) = true ∧
    Instr.wellFormed (.massageStart 0x402 8 0) = true ∧ Instr.wellFormed (.configWordWrite 0x3FF00 1) = true ∧
    Instr.wellFormed (.climateArrival 3 (.heater 1 1)) = true ∧ Instr.wellFormed (.query 20) = true := by decide

/-! ## Worked values of the spec -/

/-- R187: the CHECK field of a QUERY. -/
theorem test_crc_of_query : crc8 [0x35] = 0x0C := by decide

/-- R187: the shifts of the worked value. -/
theorem test_crc_shifts : crcShift 0xCA = 0xBB ∧ crcShift 0xBB = 0x59 ∧ crcShift 0x59 = 0xB2 ∧ crcShift 0xB2 = 0x4B ∧
    crcShift 0x4B = 0x96 ∧ crcShift 0x96 = 0x03 ∧ crcShift 0x03 = 0x06 ∧ crcShift 0x06 = 0x0C := by decide

/-- R1: an address hits a window where it agrees with the base on the mask's bits; its offset is the rest. -/
theorem test_window_offset : windowHits ⟨0x01000, 0x3FF80⟩ 0x01025 = true ∧ windowOffset ⟨0x01000, 0x3FF80⟩ 0x01025 = 0x25 ∧
    windowHits ⟨0x01000, 0x3FF80⟩ 0x01080 = false := by decide

/-- Section 11.3: word 5 of axis 2 is POSITION; words 9 to 11 are OWNED; entry 0 of the ring is at +16. -/
theorem test_slot_map : slotMap .axis 0x25 = (.status (.position 2), .axis 2) ∧ slotMap .axis 0x2B = (.owned, .axis 2) ∧
    slotMap .journal 16 = (.owned, .none) ∧ slotMap .profile 63 = (.record (.profile 1), .none) ∧
    slotMap .seat 14 = (.free, .none) := by decide

/-- R148: code 7400 under offset 6680 and gain 26 is (720 * 10) / 26 = 276 tenths; the bands read as no temperature. -/
theorem test_ntc_temperature : ntcTemperature zoneConf 7400 = some 276 ∧ ntcTemperature zoneConf 999 = none ∧
    ntcTemperature zoneConf 64001 = none ∧ ntcTemperature zoneConf 1000 = some (-400) := by decide

/-- R138: maximum 500, level 255, intensity 5 gives the maximum in both curves. -/
theorem test_step_target : stepTarget false 500 255 5 = 500 ∧ stepTarget true 500 255 5 = 500 ∧
    stepTarget false 500 51 1 = 20 := by decide

/-- R188: key map word 0x0113 jogs axis 3 down; 0x0904 is no zone of a HEAT key. -/
theorem test_key_functions : keyFunction 0x0113 = some (.jog 3 .downBack) ∧ keyFunction 0x0904 = none ∧
    keyFunction 0x0A05 = some (.climate 5) := by decide

/-- Section 11.4: a REFUSAL entry STORE_BUSY for address 0x30401: class 3, high bits 3, code 7. -/
theorem test_kind_word : Entry.kind ⟨0, .storeBusy, 3, 0x0401, 0⟩ = 0x3C07 := by decide

/-! ## Single steps -/

/-- The fields of a next state a test looks at. -/
def next (c : Instr) (s : State) : State :=
  match step (s.withCommand c) with
  | .next t => t
  | _ => s

/-- R57: an edge of a referenced axis at its stroke does not pass it. -/
theorem test_hall_edge_at_stroke :
    (next (.hallEdge 0 7) (withAxis (fun a => { a with state := .stopping, count := 20000 }))).axes[0].count = 20000 := by
  decide

/-- R51: the edge that brings the count to the target stops the axis with REACHED. -/
theorem test_target_reached :
    (next (.hallEdge 0 7) (moving (.target 5001) id)).axes[0].lastCause = some .reached := by decide

/-- R53: a period of 3 ms is not above 1.5 times a baseline of 2 ms, one of 3.001 ms is. -/
theorem test_pinch_by_period :
    (next (.hallEdge 0 2000) baselined).axes[0].state = .running ∧
      (next (.hallEdge 0 2001) baselined).axes[0].state = .reversing := by decide

/-- R64: a TARGET above the stroke is refused: the axis stays idle, and the write is not forwarded. -/
theorem test_target_above_stroke :
    (next (.target 0x1000 20001) base).axes[0].state = .idle ∧ (next (.target 0x1000 20001) base).uport = .idle := by decide

/-- R65: DUTY of a moving axis is held for the hold limit of 20. -/
theorem test_duty_held : (next (.duty 0x1002 50) (moving .home id)).uport = .held 0x1002 50 (.axDuty 0) 1000020 := by decide

/-- R91: 4 units granted of 60. -/
theorem test_budget_granted_word : (granted base).statusWord .budgetGranted = 0x0808 := by decide

/-- R149: the level cycle of a HEAT key. -/
theorem test_level_cycle : nextLevel 0 = 3 ∧ nextLevel 3 = 2 ∧ nextLevel 2 = 1 ∧ nextLevel 1 = 0 := by decide

/-- R111: the third differing sample in a row changes the key. -/
theorem test_debounce : Key.sampled ⟨false, 2⟩ 3 true = (⟨true, 0⟩, true) ∧ Key.sampled ⟨false, 1⟩ 3 true = (⟨false, 2⟩, false) := by
  decide

/-- R131: the sample below the target less the tolerance starts a refill. -/
theorem test_leak_refill :
    (next (.pressureSample 0 79) (withChamber (fun c => { c with target := some 100 }))).air.chambers[0].refills = [1000000] := by
  decide +kernel

/-- R17: a late value out of range is refused and leaves the list. -/
theorem test_late_refused :
    (next .catchUpReadComplete { base with
      path := { base.path with list := [⟨0x1002, true⟩] },
      ins := { base.ins with port := .inserted ⟨.catchUp, false, 0x1002, 0, false, false⟩ 101 } }).path.list = [] := by
  decide

/-- R165: the second failure of a kind since the last valid frame makes no entry. -/
theorem test_error_reported_once :
    (next (.linkReceiveError .rate 7) (withLink (fun l => { l with state := .sync, reported := [.rate] }))).journal = base.journal := by
  decide

/-- R168: RELEASE in IDLE changes nothing of the crash controller. -/
theorem test_release_in_idle : (next .release base).crash = base.crash := by decide

/-- R153: the step-down time of 30 minutes is counted from when the level became 3. -/
theorem test_step_down_time :
    (next (.stepDownExpiry 0) (withZone 0 (fun z => { z with level := 3, stepSince := some 5 }))).now = 1800000005 := by decide

/-- R131: a return that ends at the posture target leaves no fill time. -/
theorem test_return_clears_fill_time :
    (next (.pressureSample 0 9) (withChamber (fun c => { c with
      owner := .crash, returning := true, state := .venting, posture := some 9, target := some 9,
      fillTime := 5000 }))).air.chambers[0].fillTime = 0 := by decide +kernel

/-- R107: a recall of the slot makes its neutral write though an earlier one of the slot is kept queued for its check; one
that a later request of the slot has replaced makes none. -/
theorem test_neutral_write_of_a_later_recall (o : Origin) (h : o = .slot ∨ o = .replaced) :
    ((next .recallReadComplete (carrying { base with engine := { base.engine with
      profiles := base.engine.profiles.set 1 ⟨.invalid, 0, .running⟩,
      plan := { base.engine.plan with
        state := .reading, profile := some 0, origin := some o, reading := true, copy := List.replicate 31 0,
        queued := some (1, .slot) } } } .recallRead 9)).ins.pending.any (fun c => c.purpose == .seatNeutral false)) =
      (o == .slot) := by
  rcases h with rfl | rfl <;> decide +kernel

/-- R107: a request taken from the slot replaces the recall of the slot in progress. -/
theorem test_slot_request_replaces :
    (next (.recall 0x400 2) { base with engine := { base.engine with
      profiles := base.engine.profiles.set 1 ⟨.valid, 0, .none⟩,
      plan := { base.engine.plan with
        state := .reading, profile := some 0, origin := some .slot, reading := true } } }).engine.plan.origin =
      some .replaced := by decide +kernel

/-- No row of the table has bits, so no word spells a command. -/
theorem test_no_word_spells (n w : Nat) : decodeTableWord n w = none := rfl

/-! ## Witnesses: states and operands that meet the hypotheses of the obligations -/

theorem witness_StepRunsTheFrontCommand :
    (base.withCommand .impact).pending = .impact :: [] ∧ base.pending = [] := by decide

theorem witness_StepKeepsMemoryCanonical :
    (forwarding base (.write 0x1000 9 .none)).canonical ∧
      (match step ((forwarding base (.write 0x1000 9 .none)).withCommand .dportGrant) with
       | .next t => t.mem == [(0x1000, 9)]
       | _ => false) = true := by decide

theorem witness_MemoryChangesOnlyAtGrants :
    (match exec (.hallEdge 0 7) base with
     | .next _ => true
     | _ => false) = true ∧ Instr.hallEdge 0 7 ≠ .dportGrant := by decide

/-- FALLBACK with the window of the seat region alone; LOADING. -/
def seatOnly : State :=
  { base with cfg := { base.cfg with state := .fallback, inForce := none },
              path := { base.path with table := { WindowTable.empty with seat := some ⟨0x00400, 0x3FFC0⟩ } } }
def loading : State := { base with cfg := { base.cfg with state := .loading } }

theorem witness_HostReadsServed : base.atWork ∧ base.uport = .idle ∧
    base.placeOf 0x1025 = .slot .axis (.status (.position 2)) (.axis 2) ∧ base.unitFitted (.axis 2) = false ∧
    base.placeOf 0x1005 = .slot .axis (.status (.position 0)) (.axis 0) ∧ base.unitFitted (.axis 0) = true ∧
    base.placeOf 0x3FF00 = .config ∧ base.placeOf 0x3FEFF = .outside ∧
    base.placeOf 0x1000 = .slot .axis (.control (.axTarget 0)) (.axis 0) ∧
    (seatOnly.inReset = false ∧ seatOnly.uport = .idle ∧ seatOnly.fellBack = true ∧
      seatOnly.placeOf 0x406 = .slot .seat (.status .configState) .none ∧ seatOnly.placeOf 0x1000 = .outside) ∧
    (State.reset.uport = .idle ∧ State.reset.inReset = true) ∧ (loading.uport = .idle ∧ loading.cfg.state = .loading) ∧
    base.axes[(0 : Fin 8)].referenced = true ∧ State.reset.axes[(0 : Fin 8)].referenced = false := by decide

theorem witness_PlainWritesForwardedOrDropped :
    (base.stagesRefusal ∧ base.crashGuard = false) ∧
    (base.storeGuard 0x30000 = false ∧ base.placeOf 0x30000 = .outside) ∧
    (base.storeGuard 0x40E = false ∧ base.placeOf 0x40E = .slot .seat .free .none ∧ base.unitFitted .none = true) ∧
    (base.storeGuard 0x1020 = false ∧ base.placeOf 0x1020 = .slot .axis (.control (.axTarget 2)) (.axis 2) ∧
      base.unitFitted (.axis 2) = false) ∧
    (base.storeGuard 0x405 = false ∧ base.placeOf 0x405 = .slot .seat .owned .none) ∧
    (base.storeGuard 0x406 = false ∧ base.placeOf 0x406 = .slot .seat (.status .configState) .none) ∧
    (base.storeGuard 0x303F = false ∧ base.placeOf 0x303F = .slot .profile (.record (.profile 1)) .none) ∧
    (base.storeGuard 0x2041 = false ∧ base.placeOf 0x2041 = .slot .air (.record .none) .none) ∧
    (base.reaches 0x1000 (.axTarget 0) ∧ base.answer (.axTarget 0) 20001 = .refused ∧ CSlot.axTarget 0 ≠ .store) ∧
    (base.reaches 0x401 .store ∧ base.answer .store 9 = .refused ∧ 4 < (9 : Word).toNat) ∧
    (seatOnly.inReset = false ∧ seatOnly.uport = .idle ∧ seatOnly.fellBack = true) ∧
    State.reset.inReset = true ∧ loading.cfg.state = .loading := by decide

/-- The upstream access on the D-port. -/
def onPort (a : Access) (w : Word) : State :=
  { base with uport := .onPort a w, ins := { base.ins with port := .upstream } }

theorem witness_UpstreamAccessEnds : (onPort (.read 0x1000) 9).inReset = false ∧
    (onPort (.read 0x1000) 9).ins.port = .upstream ∧ (onPort (.read 0x1000) 9).uport = .onPort (.read 0x1000) 9 ∧
    (onPort (.read 0x1000) 9).cfg.state ≠ .loading := by decide

/-- A held write, a full list. -/
def heldDuty : State := { moving .home id with uport := .held 0x1002 50 (.axDuty 0) 1000010 }
def listing (l : List Listed) (sw : Option Addr) : Path := { base.path with list := l, sweep := sw }
def eight : List Listed :=
  [⟨1, false⟩, ⟨2, false⟩, ⟨3, false⟩, ⟨4, false⟩, ⟨5, false⟩, ⟨6, false⟩, ⟨7, false⟩, ⟨8, false⟩]

theorem witness_HoldExpiryForwardsAndRecords :
    (heldDuty.inReset = false ∧ heldDuty.uport = .held 0x1002 50 (.axDuty 0) 1000010) ∧
    (listing eight none).listed 8 = true ∧
    ((listing (eight.take 7) none).listed 8 = false ∧ (listing (eight.take 7) none).list.length < 8) ∧
    ((listing eight none).listed 9 = false ∧ 8 ≤ (listing eight none).list.length ∧ (listing eight none).sweep = none) ∧
    ((listing eight (some 2)).listed 9 = false ∧ (listing eight (some 2)).sweep ≠ none) := by decide

/-- A late value of DUTY has been read. -/
def late (p : Purpose) (w : Word) : State :=
  { base with path := { base.path with list := [⟨0x1002, true⟩] },
              ins := { base.ins with port := .inserted ⟨p, false, 0x1002, 0, false, false⟩ w } }

/-- The same with axis 0 not in IDLE, so that its DUTY is busy; in a sweep at that slot, with a list. -/
def lateBusy (p : Purpose) : State := { late p 50 with axes := (moving .home id).axes }
def sweeping (l : List Listed) : State := { lateBusy .sweep with path := listing l (some 0x1002) }
def lateCycle (p : Purpose) : Cycle := ⟨p, false, 0x1002, 0, false, false⟩

theorem witness_LateValuesAnswered :
    ((late .catchUp 20).atWork ∧ (late .catchUp 20).uport.isHeld = false ∧
      (late .catchUp 20).onDport (lateCycle .catchUp) 20 ∧ (late .catchUp 20).controlAt 0x1002 = some (.axDuty 0) ∧
      (late .catchUp 20).guardCovers 0x1002 = false ∧ (late .catchUp 20).axes[0].state = .idle ∧
      (late .catchUp 20).path.listed 0x1002 = true) ∧
    ((late .sweep 100).onDport (lateCycle .sweep) 100 ∧ (late .sweep 100).controlAt 0x1002 = some (.axDuty 0) ∧
      (late .sweep 100).ins.pending.any (fun x => x.purpose == .sweep) = false) ∧
    ((late .catchUp 101).onDport (lateCycle .catchUp) 101 ∧ (late .catchUp 101).answer (.axDuty 0) 101 = .refused ∧
      (late .catchUp 101).stagesRefusal ∧ (late .sweep 19).answer (.axDuty 0) 19 = .refused ∧
      (late .sweep 19).stagesRefusal) := by decide

theorem witness_LateValuesAnswered_busy :
    ((lateBusy .catchUp).atWork ∧ (lateBusy .catchUp).onDport (lateCycle .catchUp) 50 ∧
      (lateBusy .catchUp).controlAt 0x1002 = some (.axDuty 0) ∧ (lateBusy .catchUp).answer (.axDuty 0) 50 = .busy ∧
      (lateBusy .catchUp).ins.pending.any (fun x => x.purpose == .catchUp && x.addr == 0x1002) = false) ∧
    State.guardCovers { late .catchUp 50 with crash := { base.crash with state := .pulling } } 0x1002 = true ∧
    ((sweeping []).onDport (lateCycle .sweep) 50 ∧ (sweeping []).answer (.axDuty 0) 50 = .busy ∧
      (sweeping []).path.sweep = some 0x1002 ∧ (sweeping []).path.list.length < 8) ∧
    ((sweeping eight).path.listed 0x1002 = false ∧ 8 ≤ (sweeping eight).path.list.length ∧
      (sweeping eight).nextSlot 0x1003 ≠ none) := by decide +kernel

/-- One inserted cycle in the queue, the U-port idle. -/
def oneQueued (c : Cycle) : State := { base with ins := { base.ins with queue := [c] } }

theorem witness_GrantedWriteReachesMemory :
    ((forwarding base (.write 0x1000 9 .none)).inReset = false ∧ (forwarding base (.write 0x1000 9 .none)).canonical ∧
      (forwarding base (.write 0x1000 9 .none)).ins.port = .free ∧ (forwarding base (.write 0x1000 9 .none)).ins.queue = [] ∧
      (forwarding base (.write 0x1000 9 .none)).uport = .waiting (.write 0x1000 9 .none)) ∧
    (forwarding base (.read 0x1000)).uport = .waiting (.read 0x1000) ∧
    ((oneQueued (writeCycle (.parking 0) 0x1009 77 false)).canonical ∧
      (oneQueued (writeCycle (.parking 0) 0x1009 77 false)).ins.head = some (writeCycle (.parking 0) 0x1009 77 false, []) ∧
      (oneQueued (writeCycle (.parking 0) 0x1009 77 false)).forwarded = none) ∧
    ((oneQueued (readCycle .startUp 0x1009)).ins.head = some (readCycle .startUp 0x1009, []) ∧
      (oneQueued (readCycle .startUp 0x1009)).forwarded = none ∧ Purpose.silent .startUp = false) := by decide

/-- A forwarded check word of profile 2, with a check of profile 3 running or none; a forwarded word of the block. -/
def checkWord2 (f : Engine → Engine) : State :=
  { forwarding base (.write 0x303F 9 (.profile 1)) with engine := f base.engine }
def blockWord (st : ConfState) : State :=
  { forwarding base (.write 0x3FF07 9 .config) with cfg := { base.cfg with state := st } }

theorem witness_GrantedWriteReachesMemory_reported :
    ((checkWord2 id).ins.port = .free ∧ (checkWord2 id).uport = .waiting (.write 0x303F 9 (.profile 1)) ∧
      (checkWord2 id).ins.queue = [] ∧ (checkWord2 id).engine.plan.state ≠ .reading ∧ (checkWord2 id).engine.check = none ∧
      (∀ m : Fin 4, m ≠ 1 → (checkWord2 id).engine.profiles[m].mark ≠ .pending)) ∧
    ((checkWord2 (fun e => { e with check := some ⟨2, [], false⟩ })).engine.check = some ⟨2, [], false⟩ ∧
      (checkWord2 (fun e => { e with plan := { e.plan with
        state := .reading, profile := some 1, reading := true } })).engine.plan.reading = true) ∧
    ((blockWord .validating).ins.port = .free ∧ (blockWord .validating).cfg.state = .validating ∧
      (blockWord .active).uport = .waiting (.write 0x3FF07 9 .config) ∧ (blockWord .active).cfg.state = .active ∧
      (0x3FF07 : Addr) ≠ 0x3FFFF) := by decide

/-- One normal entry in the queue, and a pass-over count. -/
def queued (n : Nat) (s : State) : Ev :=
  State.ev { s with ins := { s.ins with queue := [readCycle .sweep 1], passOver := n } }

theorem witness_ArbiterChoosesClaimant :
    (State.ev (onPort (.read 0) 0)).ins.port ≠ .free ∧
    (base.ev.ins.port = .free ∧ base.ev.forwarded = none ∧ base.ev.ins.queue = []) ∧
    (readCycle .sweep 1).urgent = false ∧ (writeCycle (.marker 0) 1 1 true).urgent = true ∧
    ((queued 7 (forwarding base (.read 0))).ins.port = .free ∧
      (queued 7 (forwarding base (.read 0))).uport = .waiting (.read 0) ∧
      (queued 7 (forwarding base (.read 0))).ins.queue ≠ [] ∧ (queued 7 (forwarding base (.read 0))).ins.passOver < 8) ∧
    ((queued 8 (forwarding base (.read 0))).ins.head = some (readCycle .sweep 1, []) ∧
      8 ≤ (queued 8 (forwarding base (.read 0))).ins.passOver) := by decide

theorem witness_RefusalEntryCarriesAddress : EntryCode.writeOwned.cls = .refusal ∧
    base.ev.cfg.inForce.isSome = true ∧ base.ev.journal.staging.length < 8 := by decide

/-- A store into profile 3 has done 3 of its writes. -/
def storeRuns : State :=
  { base with engine := { base.engine with store := some ⟨2, false, List.replicate 33 0, 4, 3⟩ } }

theorem witness_CrashGuardCountsDrops :
    (locked.atWork ∧ locked.uport = .idle ∧ locked.crashGuard = true ∧
      locked.placeOf 0x1000 = .slot .axis (.control (.axTarget 0)) (.axis 0)) ∧
    ((locked.placeOf 0x402).crashCovered = true ∧ (locked.placeOf 0x3FF03).crashCovered = true ∧
      (locked.placeOf 0x3003).crashCovered = true) ∧
    (storeRuns.atWork ∧ storeRuns.uport = .idle ∧ storeRuns.placeOf 0x3043 = .slot .profile (.record .none) .none ∧
      storeRuns.storeGuard 0x3043 = true ∧ storeRuns.crashGuard = false ∧ storeRuns.stagesRefusal) := by decide

theorem witness_SettingWritesAnswered :
    (base.reaches 0x1002 (.axDuty 0) ∧ base.axes[0].state = .idle) ∧
    ((moving .home id).reaches 0x1002 (.axDuty 0) ∧ (moving .home id).axes[0].state ≠ .idle) ∧
    (base.reaches 0x1003 (.axLimitLo 0) ∧ base.axes[0].limitHi ≤ (19960 : Word).toNat ∧
      (19959 : Word).toNat ≤ (base.axisConf 0).stroke ∧ (19959 : Word).toNat < base.axes[0].limitHi) ∧
    ((moving .home id).reaches 0x1003 (.axLimitLo 0)) ∧
    (base.reaches 0x1004 (.axLimitHi 0) ∧ (base.axisConf 0).stroke < (20001 : Word).toNat ∧
      base.axes[0].limitLo < (41 : Word).toNat) ∧
    ((moving .home id).reaches 0x1004 (.axLimitHi 0)) := by decide

theorem witness_ImageMovesStart :
    (base.axisConf 0).fitted = true ∧ base.axes[0].state = .idle ∧ base.axes[0].pending = none ∧
    (base.crash.state == .armed && base.crashAxis 0) = false ∧ base.claimFits (axisClaimant 0) ∧
    base.budget.motorTotal + base.budget.table[axisClaimant 0].units ≤ base.conf.motorCap ∧
    (base.reaches 0x1000 (.axTarget 0) ∧ (20000 : Word).toNat ≤ (base.axisConf 0).stroke ∧
      base.axes[0].referenced = true ∧ (20000 : Word).toNat ≠ base.axes[0].count ∧
      base.axes[0].atLimit (.target 20000) (toward 20000 base.axes[0].count) = false) ∧
    (base.reaches 0x1001 (.axJog 0) ∧ base.axes[0].atLimit (.jog .upForward) .upForward = false ∧
      base.axes[0].atLimit (.jog .downBack) .downBack = false) := by decide

theorem witness_JogStopEndsImageJog :
    (moving (.jog .upForward) id).reaches 0x1001 (.axJog 0) ∧ ((moving (.jog .upForward) id).axisConf 0).fitted = true ∧
    (moving (.jog .upForward) id).axes[0].state = .running ∧ (moving (.jog .upForward) id).axes[0].mover = some .image ∧
    (moving (.jog .upForward) id).axes[0].goal = some (.jog .upForward) ∧
    (moving (.jog .upForward) id).axes[0].owed = some (.jog .upForward) ∧
    (moving (.jog .upForward) id).axes[0].pending = none ∧ (moving (.jog .upForward) id).axes[0].grant = .held ∧
    ((moving (.jog .upForward) id).crash.state == .armed && (moving (.jog .upForward) id).crashAxis 0) = false ∧
    (moving (.jog .upForward) id).budget.queue = [] := by decide

theorem witness_ChamberTargetTaken :
    base.reaches 0x2000 (.airTarget 0) ∧ (base.chamberConf 0).maxPressure < (501 : Word).toNat ∧
    base.air.chambers[0].owner = .posture ∧ base.air.chambers[0].state = .sealed ∧
    base.air.chambers[0].fillOnly = false ∧ base.pumpAtRest ∧ (500 : Word).toNat ≤ (base.chamberConf 0).maxPressure ∧
    (base.chamberConf 0).role ≠ .massage ∧ (99 : Word).toNat < base.air.chambers[0].pressure ∧
    base.air.chambers[0].pressure < (500 : Word).toNat ∧ base.claimFits pumpClaimant := by decide

/-- Profile 1 is valid; a recall of it is being read. -/
def valid1 : State :=
  { base with engine := { base.engine with profiles := base.engine.profiles.set 0 ⟨.valid, 7, .none⟩ } }
def reading (n : Nat) : State :=
  { base with engine := { base.engine with plan := { base.engine.plan with
      state := .reading, profile := some 0, origin := some (.panel 3), reading := true, copy := List.replicate n 0 } } }

theorem witness_RecallWritesTaken :
    (valid1.reaches 0x400 .recall ∧ valid1.engine.plan.state = .idle ∧ valid1.engine.store = none ∧
      valid1.engine.profiles[slotProfile 1].state = .valid ∧ valid1.engine.profiles[slotProfile 1].mark = .none ∧
      markIs valid1.engine.recallMark 1 = false) ∧
    (base.reaches 0x400 .recall ∧ base.engine.plan.queued = none ∧ base.engine.plan.state = .idle) ∧
    ((reading 5).reaches 0x400 .recall ∧ (reading 5).engine.plan.queued = none ∧
      (reading 5).engine.plan.state = .reading ∧ (reading 5).engine.plan.reading = true ∧
      (reading 5).engine.plan.legs = []) := by decide

theorem witness_StoreTaken : base.reaches 0x401 .store ∧ base.storeVerdict (slotProfile 4) = .free ∧
    markIs base.engine.storeMark 4 = false ∧ inRecord base.conf (slotProfile 4) 0x401 = false := by decide

/-- Massage runs with no chamber left to it. -/
def kneading : State :=
  withMassage (fun m => { m with
    state := .running, pattern := some 2, phase := some .rise, phaseAt := some 1500000, sessionAt := some 2000000,
    mirrorKnown := 0x0303, mirrorNow := some 0x0303, buffer := [1, 0, 0, 0x0200] })

/-- A pattern of one step for chamber 2, and its check word; the last word of its fetch is on the D-port. -/
def pattern : List Word := [bytes 2 1, 4, bytes 255 10, bytes 5 10]
def patternCheck : Word := checkWord tagPattern pattern
def fetched (f : Chamber → Chamber) : State :=
  carrying { base with air := { base.air with
    massage := { base.air.massage with state := .fetching, pattern := some 1, buffer := pattern, intensity := 3 },
    chambers := base.air.chambers.set 2 (f { base.air.chambers[2] with owner := .none }) } } .patternFetch patternCheck

theorem witness_MassageWritesTaken :
    (base.reaches 0x402 .massage ∧ base.air.massage.state = .off ∧ 1 ≤ (8 : Byte).toNat ∧ (8 : Byte).toNat ≤ 8) ∧
    (kneading.reaches 0x402 .massage ∧ kneading.air.massage.state = .running ∧ kneading.air.massage.pattern = some 2 ∧
      (5 : Byte).toNat ≤ 5 ∧ ∀ c : Fin 12, kneading.air.chambers[c].owner ≠ .massage) := by decide

theorem witness_MassageWritesTaken_running :
    ((fetched id).onDport (cyc .patternFetch) patternCheck ∧ (fetched id).air.massage.state = .fetching ∧
      (fetched id).air.massage.pattern = some 1 ∧
      (fetched id).air.massage.buffer.length = 4 * patternSteps ((fetched id).air.massage.buffer ++ [patternCheck]) ∧
      (fetched id).patternFailure ((fetched id).air.massage.buffer ++ [patternCheck]) = none) ∧
    (stepSet (stepWord (pattern ++ [patternCheck]) 0 0) = [2] ∧ ((fetched id).chamberConf 2).fitted = true ∧
      ((fetched id).chamberConf 2).role = .massage ∧ (fetched id).air.chambers[2].state = .sealed ∧
      (fetched id).air.chambers[2].owner = .none ∧ (fetched id).air.chambers[2].fillOnly = false ∧
      (fetched id).crashGuard = false ∧ (fetched id).pumpAtRest ∧ (fetched id).budget.queue = [] ∧
      lo (stepWord (pattern ++ [patternCheck]) 0 1) = 10 ∧ hi (stepWord (pattern ++ [patternCheck]) 0 1) = 255 ∧
      field ((pattern ++ [patternCheck]).getD 0 0) 5 3 ≠ 1 ∧
      300 = ((fetched id).chamberConf 2).maxPressure * 255 * (fetched id).air.massage.intensity / 1275) ∧
    ((fetched id).air.chambers[2].pressure < 300 ∧ (fetched id).claimFits pumpClaimant) ∧
    300 < (fetched (fun x => { x with sample := some 400 })).air.chambers[2].pressure := by decide +kernel

theorem witness_PanelEnableWritten :
    (base.reaches 0x403 .panelEnable ∧ base.panel.shown = base.panelState ∧ base.panel.shown = .normal ∧
      base.panel.members = [] ∧ ∀ i : Fin 8, base.axes[i].mover ≠ some .panel ∧ base.axes[i].pending = none) ∧
    (locked.reaches 0x403 .panelEnable ∧ locked.panel.shown ≠ .normal) := by decide

theorem witness_CrashClearUnlocks :
    (base.reaches 0x404 .crashClear ∧ base.crash.state ≠ .locked) ∧
    (locked.reaches 0x404 .crashClear ∧ locked.crash.state = .locked ∧ locked.atRest ∧
      locked.panel.shown = .disabled) := by decide

theorem witness_LevelTaken :
    (base.reaches 0x800 (.level 0) ∧ base.zones[0].state ≠ .faulted ∧ (1 : Word).toNat ≠ base.zones[0].level ∧
      base.pairOf 0 = none ∧ isHeater 0 = true) ∧
    ((withZone 0 (fun z => { z with state := .faulted })).reaches 0x800 (.level 0) ∧
      (withZone 0 (fun z => { z with state := .faulted })).zones[0].state = .faulted ∧
      (withZone 0 (fun z => { z with state := .faulted })).pairOf 0 = none) ∧
    ((withZone 0 (fun z => { z with level := 1 })).reaches 0x800 (.level 0) ∧
      (withZone 0 (fun z => { z with level := 1 })).zones[0].state = .off ∧
      (withZone 0 (fun z => { z with level := 1 })).zones[0].level ≠ 0 ∧
      (withZone 0 (fun z => { z with level := 1 })).budget.table[zoneClaimant 0].state = .none) := by decide

/-- Three entries unread, from place 2 on. -/
def ring : State := { base with journal := { base.journal with unread := 3, write := 5, read := 2 } }

theorem witness_ReadIndexFrees :
    (ring.reaches 0x4001 .readIndex ∧ ring.journal.unread < ring.journal.freed 6) ∧
    (ring.journal.ring = .ready ∧ 0 < ring.journal.freed 5 ∧ ring.journal.freed 5 ≤ ring.journal.unread) ∧
    63 < (64 : Word).toNat := by decide

/-- FALLBACK, nothing in force. -/
def fallback : State := { base with cfg := { base.cfg with state := .fallback, inForce := none } }

theorem witness_ConfigWritesForwarded :
    (base.inReset = false ∧ base.uport = .idle ∧ base.working = true ∧ base.crashGuard = false) ∧
    (fallback.inReset = false ∧ fallback.uport = .idle ∧ fallback.fellBack = true) ∧
    0x3FF00 ≤ (0x3FF00 : Addr).toNat ∧
    (base.storeGuard 0x301F = false ∧ base.placeOf 0x301F = .slot .profile (.record (.profile 0)) .none) := by decide

/-- A block that passes every check, with axis 0 alone fitted, in pieces, and its check word. -/
def blockHead : List Word :=
  [0xE716, 20, 0x100, 0xFFF0, 0x400, 0xFFE0, 0x800, 0xFF00, 0x200, 0xFFF0, 0xC00, 0xFFE0, 0x1000, 0xFF80,
    0x0100, 20000, 50000, 12000, 0x0804, 0x3C00, 200, 0x0301]
def zeros (n : Nat) : List Word := List.replicate n 0
def blockEnd : List Word := [60, 40, 30, 90] ++ zeros 26
def panelWords : List Word := zeros 4 ++ List.replicate 9 absent ++ zeros 17
def block : List Word :=
  ((((((((blockHead ++ zeros 30) ++ zeros 26) ++ zeros 30) ++ (zeros 18 ++ [6])) ++ zeros 30) ++ zeros 24) ++ blockEnd) ++
    panelWords) ++ zeros 14
def blockCheck : Word := 0xC3DD

/-- The CRC register over more words. -/
def crcOn (r : Nat) (ws : List Word) : Nat := ws.foldl (fun r w => crcByte (crcByte r (hi w)) (lo w)) r

theorem crcWords_append (a b : List Word) : crcWords (a ++ b) = crcOn (crcWords a) b := by
  simp [crcWords, crcOn, List.foldl_append]

theorem block_checkWord : checkWord tagConfig block = blockCheck := by
  have h0 : crcWords blockHead = 156 := by decide +kernel
  have h1 : crcOn 156 (zeros 30) = 201 := by decide +kernel
  have h2 : crcOn 201 (zeros 26) = 83 := by decide +kernel
  have h3 : crcOn 83 (zeros 30) = 169 := by decide +kernel
  have h4 : crcOn 169 (zeros 18 ++ [6]) = 169 := by decide +kernel
  have h5 : crcOn 169 (zeros 30) = 126 := by decide +kernel
  have h6 : crcOn 126 (zeros 24) = 129 := by decide +kernel
  have h7 : crcOn 129 blockEnd = 63 := by decide +kernel
  have h8 : crcOn 63 panelWords = 17 := by decide +kernel
  have h9 : crcOn 17 (zeros 14) = 221 := by decide +kernel
  simp only [checkWord, block, crcWords_append, h0, h1, h2, h3, h4, h5, h6, h7, h8, h9]
  decide

theorem block_passes : failure (block ++ [blockCheck]) = none := by
  have h : (block ++ [blockCheck]).take 255 = block := by decide +kernel
  have w : cand (block ++ [blockCheck]) 255 = blockCheck := by decide +kernel
  simp only [Machine.failure, h, w, block_checkWord]
  decide +kernel

/-- No word of another tag is the check word. -/
theorem not_checkWord (ws : List Word) : (9 : Word) ≠ checkWord tagConfig ws := by
  intro h
  have h' := congrArg BitVec.toNat h
  simp [checkWord, tagConfig, bytes, toWord] at h'
  omega

/-- The last word of a validation of that block on the D-port. -/
def judged (o : Option ConfOrigin) (st : ConfState) (w : Word) : State :=
  carrying { base with cfg := { base.cfg with state := st, origin := o, candidate := block,
                                              inForce := if o = none then none else base.cfg.inForce } } .validation w

theorem witness_CheckWordStartsValidation :
    ((forwarding base (.write 0x3FFFF 9 .config)).ins.port = .free ∧
      (forwarding base (.write 0x3FFFF 9 .config)).ins.queue = [] ∧
      (forwarding base (.write 0x3FFFF 9 .config)).cfg.state = .active) ∧
    (forwarding fallback (.write 0x3FFFF 9 .config)).cfg.state = .fallback := by decide +kernel

theorem witness_CheckWordStartsValidation_passes :
    ((judged none .loading blockCheck).inReset = false ∧ (judged none .loading blockCheck).uport.isHeld = false ∧
      (judged none .loading blockCheck).onDport (cyc .validation) blockCheck ∧
      (judged none .loading blockCheck).cfg.candidate = block ∧
      (judged none .loading blockCheck).cfg.origin ≠ some .active ∧
      (judged none .loading blockCheck).cfg.spoil = .clear ∧ (judged none .loading blockCheck).cfg.restart = false) ∧
    ((block ++ [blockCheck]).length = 256 ∧ failure (block ++ [blockCheck]) = none ∧
      (confOf (block ++ [blockCheck])).axes[(0 : Fin 8)].fitted = true) ∧
    ((judged (some .active) .validating blockCheck).cfg.origin = some .active ∧
      (judged (some .active) .validating blockCheck).crash.state ≠ .restoring ∧
      (judged (some .active) .validating blockCheck).engine.plan.queued = none ∧
      ((judged (some .active) .validating blockCheck).axisConf 1).fitted = true ∧
      (judged (some .active) .validating blockCheck).axes[(1 : Fin 8)].sound ∧
      ((judged (some .active) .validating blockCheck).axisConf 1).stroke ≠
        (confOf (block ++ [blockCheck])).axes[(1 : Fin 8)].stroke) :=
  ⟨by decide +kernel, ⟨by decide +kernel, block_passes, by decide +kernel⟩, by decide +kernel⟩

theorem witness_CheckWordStartsValidation_fails :
    failure (block ++ [9]) = some (.badCheck, none) ∧ (block ++ [(9 : Word)]).length = 256 ∧
    (judged none .loading 9).uport = .idle ∧ UPort.isHeld (.kept (.write 0x1000 7 .none)) = false ∧
    (0x1000 : Addr).toNat < 0x3FF00 := by
  refine ⟨?_, by decide +kernel⟩
  have w : cand (block ++ [9]) 255 = 9 := by decide +kernel
  have n : (cand (block ++ [9]) 255 != checkWord tagConfig ((block ++ [(9 : Word)]).take 255)) = true := by
    rw [w]
    exact bne_iff_ne.mpr (not_checkWord _)
  simp only [Machine.failure, n, if_true]

theorem witness_ValidationReadsGoOn :
    ((carrying (validating 0) .validation 9).onDport (cyc .validation) 9 ∧ (validating 0).cfg.candidate.length < 255) ∧
    ((validating 255).cfg.state = .validating ∧ (validating 255).cfg.origin = some .active ∧
      (validating 255).cfg.restart = false ∧ (validating 255).cfg.spoil = .clear ∧
      (validating 255).crash.state ≠ .restoring) := by decide

theorem witness_ValidationReadsGoOn_last :
    (validating 255).cfg.candidate.length = 255 ∧ (9 : Word) ≠ checkWord 0xC3 (validating 255).cfg.candidate :=
  ⟨List.length_replicate, not_checkWord _⟩

/-- The start-up in a step, with a cycle on the D-port. -/
def starting (st : StartStep) (p : Purpose) (l : List CSlot) : State :=
  carrying { base with
    cfg := { base.cfg with state := .loading, step := st, neutralNow := some .recall, neutralLeft := l },
    panel := Panel.reset, crash := Crash.reset } p 9

theorem witness_StartUpReadsGoOn :
    ((starting (.shadows 1) .startUp []).onDport (cyc .startUp) 9 ∧ (starting (.shadows 1) .startUp []).cfg.step = .shadows 1 ∧
      (starting (.shadows 1) .startUp []).cfg.words.length < 2) ∧
    (starting .crashRecord .startUp []).cfg.step = .crashRecord ∧
    (starting .crashRecord .startUp []).neutralSlots.head? = some .recall := by decide

theorem witness_NeutralWritesEndInActive :
    ((starting .neutral (.neutral .recall) [.store]).onDport (cyc (.neutral .recall)) 9 ∧
      (starting .neutral (.neutral .recall) [.store]).uport = .idle ∧
      (starting .neutral (.neutral .recall) [.store]).cfg.neutralNow = some .recall ∧
      (starting .neutral (.neutral .recall) [.store]).cfg.neutralLeft = [.store]) ∧
    ((starting .neutral (.neutral .recall) []).cfg.neutralLeft = [] ∧
      (starting .neutral (.neutral .recall) []).cfg.step = .neutral ∧
      (starting .neutral (.neutral .recall) []).cfg.crashRecord ≠ 0x00A5 ∧
      (starting .neutral (.neutral .recall) []).panel.shown = .disabled) := by decide

/-- Axis 0 in STARTING. -/
def startingAxis (g : Grant) : State :=
  granted (withAxis (fun a => { a with
    state := .starting, mover := some .image, goal := some (.target 9000), owed := some (.target 9000), grant := g,
    deadAt := some 1000020 }))

theorem witness_DriveEnergised :
    ((startingAxis .held).axes[0].state = .starting ∧ (startingAxis .held).axes[0].goal = some (.target 9000) ∧
      (Goal.target 9000).position ≠ some (startingAxis .held).axes[0].count ∧
      (carrying (startingAxis .held) (.marker 0) 9).onDport (cyc (.marker 0)) 9 ∧
      (startingAxis .held).axes[0].mover ≠ some .crash ∧ (startingAxis .held).axes[0].grant = .held ∧
      (startingAxis .held).axes[0].deadAt = some 1000020) ∧
    (startingAxis .claimed).axes[0].grant = .claimed := by decide

/-- Axis 0 coasts, parks. -/
def coasting : State := withAxis (fun a => { a with state := .stopping, coastAt := some 1030000 })
def parking (n heat : Nat) (hot : Bool) : State :=
  carrying (withAxis (fun a => { a with
    state := .parking, parkLeft := n, parkOwed := [.image], overheated := hot, thermal := heat })) (.parking 0) 9

theorem witness_CoastAndParkingEnd :
    (coasting.uport.isHeld = false ∧ coasting.axes[0].coastAt = some 1030000) ∧
    ((parking 2 0 false).onDport (cyc (.parking 0)) 9 ∧ (parking 2 0 false).axes[0].state = .parking ∧
      1 < (parking 2 0 false).axes[0].parkLeft) ∧
    ((parking 1 0 false).axes[0].parkLeft = 1 ∧ (parking 1 0 false).axes[0].pending = none ∧
      (parking 1 0 false).axes[0].parkOwed = [.image] ∧ (parking 1 0 false).axes[0].overheated = false ∧
      (parking 1 0 false).axes[0].crashInBlocked = false) ∧
    ((parking 1 51 true).axes[0].overheated = true ∧
      ((parking 1 51 true).axisConf 0).thermalLimit / 2 < (parking 1 51 true).axes[0].thermal) ∧
    (State.onDport { parking 1 0 false with uport := .held 0x1002 50 (.axDuty 0) 1000010 } (cyc (.parking 0)) 9 ∧
      20 ≤ (50 : Word).toNat ∧ (50 : Word).toNat ≤ 100) := by decide

/-- Axis 0 at a count, the drive off. -/
def rolling (r : Bool) (d : Dir) (n : Nat) : State :=
  withAxis (fun a => { a with state := .stopping, referenced := r, lastDir := d, count := n })

theorem witness_HallEdgeCounts :
    ((rolling true .upForward 19999).axes[0].drive = none ∧ (rolling true .upForward 19999).axes[0].goal = none ∧
      (rolling true .upForward 19999).axes[0].count < ((rolling true .upForward 19999).axisConf 0).stroke ∧
      (rolling true .upForward 19999).axes[0].state = .stopping) ∧
    (rolling true .downBack 1).axes[0].count = 0 + 1 ∧
    ((rolling false .upForward 65535).axes[0].referenced = false ∧
      0 = ((rolling false .upForward 65535).axes[0].count + 1) % 65536) ∧
    65535 = ((rolling false .downBack 0).axes[0].count + 65535) % 65536 ∧
    (base.axes[0].state = .idle ∧ base.axes[0].drive = none ∧ base.axes[0].goal = none) ∧
    ((rolling true .upForward 20000).axisConf 0).stroke ≤ (rolling true .upForward 20000).axes[0].count ∧
    (rolling true .downBack 0).axes[0].count = 0 := by decide

/-- Axis 0 drives at a count in a direction, start blanking still on. -/
def driving (g : Goal) (d : Dir) (n : Nat) : State :=
  moving g (fun a => { a with drive := some d, lastDir := d, count := n, blankAt := some 1050000 })

theorem witness_HallEdgeCounts_driven :
    ((driving (.target 9000) .upForward 8999).movesAlone 0 (.target 9000) ∧
      (driving (.target 9000) .upForward 8999).axes[0].drive = some .upForward ∧
      (driving (.target 9000) .upForward 8999).axes[0].referenced = true ∧
      (8999 < ((driving (.target 9000) .upForward 8999).axisConf 0).stroke ∧ countPast .upForward 9000 9000)) ∧
    ((driving (.target 70) .downBack 71).axes[0].count = 70 + 1 ∧ countPast .downBack 70 70) ∧
    (¬ countPast .upForward 20000 19960 ∧
      countPast .upForward ((driving (.target 20000) .upForward 19959).axes[0].softLimit .upForward) 19960) ∧
    ((driving (.jog .downBack) .downBack 41).movesAlone 0 (.jog .downBack) ∧
      countPast .downBack ((driving (.jog .downBack) .downBack 41).axes[0].softLimit .downBack) 40) ∧
    (¬ countPast .upForward ((driving (.jog .upForward) .upForward 19958).axes[0].softLimit .upForward) 19959 ∧
      (driving (.jog .upForward) .upForward 19958).axes[0].blankAt ≠ none) ∧
    (withAxis (fun a => { a with state := .blocked })).axes[0].state = .blocked := by decide

/-- At the position and the soft limit together: REACHED (log entry 17). -/
theorem witness_HallEdgeCounts_both :
    (driving (.target 19960) .upForward 19959).movesAlone 0 (.target 19960) ∧ countPast .upForward 19960 19960 ∧
    countPast .upForward ((driving (.target 19960) .upForward 19959).axes[0].softLimit .upForward) 19960 ∧
    (next (.hallEdge 0 7) (driving (.target 19960) .upForward 19959)).axes[0].lastCause = some .reached := by decide

/-- Axis 0 at the end of start blanking. -/
def blanked (g : Goal) : State := moving g (fun a => { a with blankAt := some 1050000, lastPeriod := some 2000 })

/-- Axis 0 in REVERSING. -/
def reversing : State := withAxis (fun a => { a with state := .reversing, deadAt := some 1020000 })

theorem witness_PinchDetected :
    base.axes[0].drive = none ∧
    ((moving .home id).axes[0].drive ≠ none ∧ (moving .home id).axes[0].currentBase = none) ∧
    (baselined.axes[0].currentBase = some 5 ∧ baselined.pinchChecks 0 = true ∧
      5 + (baselined.axisConf 0).pinchThreshold < (10 : Word).toNat ∧ baselined.axes[0].hallBase = some 2000 ∧
      baselined.axes[0].lastEdge = some 999000) ∧
    ((blanked (.target 9000)).axes[0].blankAt = some 1050000 ∧ (blanked (.target 9000)).pinchOn 0 = true) ∧
    (blanked .home).pinchOn 0 = false ∧
    (reversing.axes[0].state = .reversing ∧ reversing.axes[0].deadAt = some 1020000 ∧
      (reversing.axisConf 0).backOff = 59 + 1) := by decide

theorem witness_StallEndsMove :
    ((moving .home id).movesAlone 0 .home ∧ (moving .home id).axes[0].state = .running ∧
      (moving .home id).axes[0].stallAt = some 1100000 ∧ (moving .home id).axes[0].current = some 10 ∧
      ((moving .home id).axisConf 0).current < 10) ∧
    ((moving (.target 9000) id).movesAlone 0 (.target 9000) ∧ ((moving (.target 9000) id).axisConf 0).current < 10) ∧
    ((moving (.jog .upForward) (fun a => { a with current := some 8 })).movesAlone 0 (.jog .upForward) ∧
      8 ≤ ((moving (.jog .upForward) (fun a => { a with current := some 8 })).axisConf 0).current) := by decide

/-- A restore leg of time kind of axis 0. -/
def restoreLeg : CrashLeg := ⟨0, false, .requested, none, false⟩
def restoring : State :=
  { moving (.restoreTime 500 .downBack) (fun a => { a with mover := some .restore }) with
    crash := { base.crash with state := .restoring, kind := .restore, legs := [restoreLeg] } }

theorem witness_RestoreTimeEndsLeg :
    restoring.axes[0].state = .running ∧ restoring.axes[0].goal = some (.restoreTime 500 .downBack) ∧
    restoring.axes[0].owed = some (.restoreTime 500 .downBack) ∧ restoring.axes[0].mover = some .restore ∧
    restoring.axes[0].pending = none ∧ restoring.axes[0].grant = .held ∧ restoring.budget.queue = [] ∧
    restoring.crash.state = .restoring ∧ restoring.crash.kind = .restore ∧ restoreLeg ∈ restoring.crash.legs ∧
    restoreLeg.axis = 0 ∧ restoreLeg.phase = .requested := by decide

/-- Axis 0 in BLOCKED with a thermal count. -/
def blocked (n : Nat) : State := withAxis (fun a => { a with state := .blocked, thermal := n })

/-- Axis 0 driven by a mover with a thermal count; its class is 8 and its limit 100. -/
def heating (m : Mover) (n : Nat) : State := moving (.target 9000) (fun a => { a with mover := some m, thermal := n })

/-- Axis 0 in its reversal dead time with a thermal count. -/
def deadTime (n : Nat) : State :=
  moving .home (fun a => { a with state := .reversing, drive := none, goal := none, deadAt := some 1010000, thermal := n })

theorem witness_ThermalTicksCount :
    (base.axes[0].drive = none ∧ base.axes[0].state ≠ .reversing ∧ base.axes[0].thermal = 0) ∧
    ((deadTime 3).axes[0].drive = none ∧ (deadTime 3).axes[0].state = .reversing ∧ (deadTime 3).axes[0].grant = .held ∧
      (deadTime 3).axes[0].pending = none ∧ (deadTime 3).budget.queue = [] ∧ (deadTime 3).axes[0].mover = some .image ∧
      11 = min 65535 ((deadTime 3).axes[0].thermal + ((deadTime 3).axisConf 0).current) ∧
      11 < ((deadTime 3).axisConf 0).thermalLimit) ∧
    (((deadTime 95).axisConf 0).thermalLimit ≤ min 65535 ((deadTime 95).axes[0].thermal + ((deadTime 95).axisConf 0).current) ∧
      (deadTime 95).axes[0].owed = some .home) ∧
    ((heating .image 91).axes[0].drive ≠ none ∧ 99 = min 65535 ((heating .image 91).axes[0].thermal + ((heating .image 91).axisConf 0).current) ∧
      99 < ((heating .image 91).axisConf 0).thermalLimit) ∧
    (((heating .crash 92).axisConf 0).thermalLimit ≤ 100 ∧ (heating .crash 92).axes[0].mover = some .crash) ∧
    ((heating .panel 92).movesAlone 0 (.target 9000)) ∧
    (0 < (blocked 52).axes[0].thermal ∧ ((blocked 52).axisConf 0).thermalLimit / 2 < (blocked 52).axes[0].thermal - 1) ∧
    ((blocked 51).axes[0].state = .blocked ∧ (blocked 51).axes[0].pending = none ∧
      (blocked 51).axes[0].thermal - 1 ≤ ((blocked 51).axisConf 0).thermalLimit / 2) := by decide

/-- The supply's counts; 8 units are granted. -/
def supply (sag : Bool) (n m : Nat) : State :=
  { granted base with budget := { (granted base).budget with sagging := sag, sagCount := n, recoveryCount := m } }

theorem witness_SupplySagCounts :
    ((supply false 1 0).atWork ∧ (supply false 1 0).crash.state ≠ .pulling ∧ (supply false 1 0).conf.sagThreshold ≤ (90 : Word).toNat) ∧
    ((89 : Word).toNat < (supply false 1 0).conf.sagThreshold ∧ (supply false 1 0).budget.sagCount < 2) ∧
    ((supply false 2 0).budget.sagCount = 2 ∧ (supply false 2 0).budget.queue = [] ∧
      (supply false 2 0).budget.motorTotal ≤ (supply false 2 0).conf.motorCap ∧
      (supply false 2 0).budget.grantedTotal ≤ (supply false 2 0).conf.reducedCap - (supply false 2 0).budget.reservation) ∧
    ((supply true 0 8).budget.sagging = true ∧ (94 : Word).toNat < (supply true 0 8).conf.sagThreshold + 5 ∧
      (supply true 0 8).conf.sagThreshold + 5 ≤ (95 : Word).toNat ∧ (supply true 0 8).budget.recoveryCount < 9) ∧
    ((supply true 0 9).budget.recoveryCount = 9 ∧ (supply true 0 9).budget.queue = []) := by decide

/-- The third low sample finds entries granted: axis 0 runs for the host, the pump fills chamber 0, heater zones 0 and 1 are
on. -/
def shedding (l : List (Fin 15 × Claim)) : State :=
  { moving (.target 9000) id with
    air := { (base).air with
      claim := some .pump, granted := true,
      chambers := base.air.chambers.set 0 { base.air.chambers[0] with state := .filling, target := some 200 } },
    zones := (base.zones.set 0 { base.zones[0] with state := .on, level := 2 }).set 1
      { base.zones[1] with state := .on, level := 2 },
    budget := { base.budget with
      sagCount := 2, nextSeq := 9,
      table := l.foldl (fun b x => b.set x.1 x.2) base.budget.table } }

def axisGrant (n : Nat) : Fin 15 × Claim := (0, ⟨.granted, n, some .motion, .limited2s, none, 1⟩)
def pumpGrant : Fin 15 × Claim := (8, ⟨.granted, 6, some .pump, .limited5s, none, 2⟩)
def heatGrant (z : Fin 2) (n : Nat) : Fin 15 × Claim := (⟨9 + z.val, by omega⟩, ⟨.granted, 11, some .heater, .unlimited, none, n⟩)

/-- What is granted passes the reduced cap, and entry `c` of priority `p` is the one to shed. -/
abbrev shedsOnly (s : State) (c : Fin 15) (p : Priority) : Prop :=
  s.budget.sagCount = 2 ∧ s.budget.queue = [] ∧ s.budget.motorTotal ≤ s.conf.motorCap ∧
    s.conf.reducedCap - s.budget.reservation < s.budget.grantedTotal ∧
    s.budget.grantedTotal ≤ s.conf.reducedCap - s.budget.reservation + s.budget.table[c].units ∧
    s.budget.table[c].state = .granted ∧ s.budget.table[c].priority = some p ∧
    ∀ d : Fin 15, d ≠ c → s.budget.table[d].state = .granted →
      (s.budget.table[d].priority.any fun q => q.rank < p.rank || q == p && s.budget.table[d].seq < s.budget.table[c].seq) =
        true

theorem witness_SupplySagCounts_shed :
    (shedsOnly (shedding [axisGrant 8, pumpGrant, heatGrant 0 5, heatGrant 1 6]) 10 .heater ∧ zoneClaimant 1 = 10 ∧
      (shedding [axisGrant 8, pumpGrant, heatGrant 0 5, heatGrant 1 6]).zones[1].state = .on) ∧
    (shedsOnly (shedding [axisGrant 28, pumpGrant]) 8 .pump ∧ pumpClaimant = 8) ∧
    (shedsOnly (shedding [axisGrant 31]) 0 .motion ∧ axisClaimant 0 = 0 ∧
      (shedding [axisGrant 31]).axes[0].state = .running ∧
      (shedding [axisGrant 31]).movesAlone 0 (.target 9000)) := by decide +kernel

theorem witness_WaitLimitRefuses :
    waitingClaim.budget.table[axisClaimant 0].state = .waiting ∧ waitingClaim.budget.table[axisClaimant 0].since = some 900000 ∧
    waitingClaim.budget.table[axisClaimant 0].wait = .limited2s ∧ waitingClaim.budget.queue = [axisClaimant 0] ∧
    waitingClaim.axes[0].state = .starting ∧ waitingClaim.axes[0].grant = .claimed ∧
    waitingClaim.axes[0].goal = some .home ∧ waitingClaim.axes[0].owed = some .home ∧
    waitingClaim.axes[0].mover = some .image := by decide

theorem witness_GrantPassKeepsCaps : waitingClaim.ev.crash.state ≠ .pulling ∧
    waitingClaim.ev.budget.grantedTotal ≤ waitingClaim.ev.budget.grantable ∧
    waitingClaim.ev.budget.motorTotal ≤ waitingClaim.ev.conf.motorCap ∧
    (∀ c : Fin 15, waitingClaim.ev.budget.table[c].state = .granted → c ∉ waitingClaim.ev.budget.queue) := by decide

/-- A profile check that has read `n` words. -/
def checking (n : Nat) : State :=
  carrying { base with engine := { base.engine with check := some ⟨1, List.replicate n 0, false⟩ } } .profileCheck 9

/-- A record with a position for axis 0 alone; the last word of its reading on the D-port; its leg about to end. -/
def record : List Word := bytes 0xC0 3 :: 7000 :: List.replicate 29 absent
def recordCheck : Word := checkWord tagProfile record
def recallRead : State :=
  carrying { base with engine := { base.engine with plan := { base.engine.plan with
    state := .reading, reading := true, profile := some 0, origin := some (.panel 3), copy := record } } } .recallRead recordCheck
def lastLeg : State :=
  carrying { withAxis (fun a => { a with state := .parking, mover := some .recall, parkLeft := 1, parkOwed := [.recall] }) with
    engine := { base.engine with plan := { base.engine.plan with
      state := .running 2, profile := some 0, origin := some (.panel 3), legs := [⟨0, 7000, 2, .ended, some .done⟩] } } }
    (.parking 0) 9

theorem witness_EngineReadsGoOn :
    ((checking 30).onDport (cyc .profileCheck) 9 ∧ (checking 30).engine.check = some ⟨1, List.replicate 30 0, false⟩) ∧
    ((checking 31).engine.check = some ⟨1, List.replicate 31 0, false⟩ ∧ (checking 31).engine.plan.queued = none ∧
      ∀ n : Fin 4, n ≠ 1 → (checking 31).engine.profiles[n].mark ≠ .pending) ∧
    ((carrying (reading 30) .recallRead 9).onDport (cyc .recallRead) 9 ∧ (reading 30).engine.plan.state = .reading ∧
      (reading 30).engine.plan.profile = some 0 ∧ (reading 30).engine.plan.copy.length < 31) ∧
    ((reading 31).engine.plan.copy.length = 31 ∧ (checkRecord ((reading 31).engine.plan.copy ++ [9])).1 ≠ .valid ∧
      (reading 31).engine.plan.origin = some (.panel 3) ∧ (reading 31).engine.plan.queued = none) := by decide

theorem witness_EngineReadsGoOn_leg :
    (recallRead.onDport (cyc .recallRead) recordCheck ∧ recallRead.engine.plan.state = .reading ∧
      recallRead.engine.plan.profile = some 0 ∧ recallRead.engine.plan.copy = record ∧
      (record ++ [recordCheck]).length = 32 ∧ (checkRecord (record ++ [recordCheck])).1 = .valid ∧
      (∀ j : Fin 28, 9 ≤ j.val → (record ++ [recordCheck]).getD j.val absent = absent) ∧
      recallRead.buildPlan (record ++ [recordCheck]) = [⟨0, 7000, 0, .planned, none⟩]) ∧
    (recallRead.axes[0].state = .idle ∧ recallRead.axes[0].pending = none ∧ recallRead.axes[0].referenced = true ∧
      7000 ≠ recallRead.axes[0].count ∧
      recallRead.axes[0].atLimit (.target 7000) (toward 7000 recallRead.axes[0].count) = false ∧
      recallRead.crash.state ≠ .locked ∧ (recallRead.crash.state == .armed && recallRead.crashAxis 0) = false ∧
      recallRead.claimFits (axisClaimant 0) ∧
      recallRead.budget.motorTotal + recallRead.budget.table[axisClaimant 0].units ≤ recallRead.conf.motorCap) := by
  decide +kernel

theorem witness_EngineReadsGoOn_complete :
    lastLeg.onDport (cyc (.parking 0)) 9 ∧ lastLeg.axes[0].state = .parking ∧ lastLeg.axes[0].parkLeft = 1 ∧
    lastLeg.axes[0].pending = none ∧ lastLeg.axes[0].parkOwed = [.recall] ∧ lastLeg.axes[0].overheated = false ∧
    lastLeg.axes[0].crashInBlocked = false ∧ lastLeg.engine.plan.state = .running 2 ∧
    lastLeg.engine.plan.legs = [⟨0, 7000, 2, .ended, some .done⟩] ∧ lastLeg.engine.plan.queued = none ∧
    lastLeg.engine.plan.origin = some (.panel 3) := by decide

/-- A store of the panel with `n` writes done; a slot's mark with its neutral write on the D-port. -/
def storing (n : Nat) : State :=
  carrying { base with engine := { base.engine with store := some ⟨2, false, List.replicate 33 0, 4, n⟩ } } .storeWrite 9
def marked (st e : Bool) : State :=
  carrying { base with engine := { base.engine with recallMark := some ⟨2, e⟩, storeMark := some ⟨2, e⟩ } } (.seatNeutral st) 9

theorem witness_StoreWritesAndMarks :
    ((storing 31).onDport (cyc .storeWrite) 9 ∧ (storing 31).engine.store = some ⟨2, false, List.replicate 33 0, 4, 31⟩) ∧
    ((storing 32).engine.store = some ⟨2, false, List.replicate 33 0, 4, 32⟩ ∧ (storing 32).engine.plan.queued = none) ∧
    ((marked false true).onDport (cyc (.seatNeutral false)) 9 ∧ (marked false true).engine.recallMark = some ⟨2, true⟩) ∧
    ((marked true false).onDport (cyc (.seatNeutral true)) 9 ∧ (marked true false).engine.storeMark = some ⟨2, false⟩) := by
  decide

/-- Line 4 is active and key 24 down; key 3 is held, the store window open. -/
def line : State := { base with panel := { base.panel with line := 4, keys := base.panel.keys.set 24 ⟨true, 1⟩ } }
def pressing : State :=
  { base with panel := { base.panel with members := [⟨3, true, some 1500000, false⟩], storeWindow := some 1600000 } }

theorem witness_PanelEventsComplete :
    line.lineSteady 2 none ∧
    (pressing.panel.members = [⟨3, true, some 1500000, false⟩] ∧ pressing.keyFn 3 = .none) ∧
    pressing.panel.storeWindow = some 1600000 := by decide

/-- Keys down, with their members; key 0 jogs axis 0 up, the keys of line 0 stand one sample before a change. -/
def keyed (down : List (Fin 30)) (members : List Member) (s : State) : State :=
  { s with
    cfg := { base.cfg with inForce := some { conf with keyMap := conf.keyMap.set 0 0x0100 } },
    panel := { base.panel with
      keys := down.foldl (fun (ks : Vector Key 30) (k : Fin 30) => ks.set k ⟨true, 2⟩) (Vector.replicate 30 ⟨false, 2⟩),
      members := members } }

/-- The panel of a state replaced. -/
def panelled (s : State) (f : Panel → Panel) : State := { s with panel := f s.panel }

/-- Axis 0 jogs for the panel, key 0 held. -/
def panelJog : State :=
  keyed [0] [⟨0, true, some 1500000, false⟩] (moving (.jog .upForward) (fun a => { a with mover := some .panel }))

/-- No key is down; the same under DISABLED; key 1, of no function, is held; keys 6 and 7 are; key 1 is the last of an
ambiguity. -/
def noKeys : State := keyed [] [] base
def disabledKeys : State := panelled noKeys (fun p => { p with shown := .disabled })
def keyHeld : State := keyed [1] [⟨1, true, none, true⟩] base
def twoKeys : State := keyed [6, 7] [⟨6, true, none, true⟩, ⟨7, true, none, true⟩] base
def lastKey : State := panelled (keyed [1] [] base) (fun p => { p with ambiguous := true, shown := .ambiguous })

theorem witness_PanelEventsComplete_down :
    (noKeys.keyChanging 2 1 ∧ noKeys.keyFn 1 = .none ∧ noKeys.downCount < 2 ∧ noKeys.panel.keys[1].down = false) ∧
    disabledKeys.keyChanging 2 1 := by decide +kernel

theorem witness_PanelEventsComplete_jog :
    noKeys.keyChanging 1 0 ∧ noKeys.keyFn 0 = .jog 0 .upForward ∧ (noKeys.axisConf 0).fitted = true ∧
    noKeys.recallAbortable = false ∧ noKeys.axes[0].state = .idle ∧ noKeys.axes[0].pending = none ∧
    noKeys.axes[0].atLimit (.jog .upForward) .upForward = false ∧ noKeys.claimFits (axisClaimant 0) ∧
    noKeys.budget.motorTotal + noKeys.budget.table[axisClaimant 0].units ≤ 40 := by decide +kernel

theorem witness_PanelEventsComplete_up :
    (keyHeld.keyChanging 0 1 ∧ keyHeld.panelNormal ∧ keyHeld.keyFn 1 = .none ∧ keyHeld.downCount ≤ 3) ∧
    (panelJog.keyChanging 0 0 ∧ panelJog.panelNormal ∧ panelJog.axes[0].state = .running ∧
      panelJog.movesAlone 0 (.jog .upForward)) := by decide +kernel

theorem witness_PanelEventsComplete_ambiguity :
    (twoKeys.keyChanging 1 0 ∧ twoKeys.downCount = 2 ∧ twoKeys.panelNormal) ∧
    (lastKey.keyChanging 0 1 ∧ lastKey.downCount = 1) := by decide +kernel

/-- R111, R122: a new debounce count holds at the next line sample, within the scan, and a run that has reached it changes
its key. -/
theorem test_new_debounce_in_scan :
    (next (.lineSample 1) ({ noKeys with panel := { noKeys.panel with keys := Vector.replicate 30 ⟨false, 1⟩ } } : State)).panel.keys[0].down =
        false ∧
      (next (.lineSample 1) (State.ev { noKeys with
        cfg := { noKeys.cfg with inForce := some { conf with debounce := 2 } },
        panel := { noKeys.panel with keys := Vector.replicate 30 ⟨false, 1⟩ } }).panelApply.toState).panel.keys[0].down =
        true := by decide +kernel

/-- R145: a borrowed chamber that is no longer fitted ends its slot request without a neutral write. -/
theorem test_unfitted_borrow_makes_no_neutral_write :
    (({ withChamber (fun c => { c with
          owner := .massage, borrowed := true, slotRequest := true, posture := some 100, target := some 50 }) with
        cfg := { base.cfg with inForce := some { conf with chambers := conf.chambers.set 0 ChamberConf.unfitted } } } : State).ev.airApply
      conf).ins.pending.length = 0 := by decide +kernel

/-- Chamber 0 in a state; the pump runs for it. -/
def chamberIn (st : ChamberState) : State := withChamber (fun c => { c with state := st, target := some 9 })
def pumping (n : Nat) : State :=
  { chamberIn .filling with air := { (chamberIn .filling).air with claim := some .pump, granted := true, overload := n } }

theorem witness_ChamberSamples :
    ((chamberIn .fillWait).atWork ∧ ((chamberIn .fillWait).chamberConf 0).fitted = true ∧
      (chamberIn .fillWait).air.chambers[0].state = .fillWait) ∧
    ((chamberIn .venting).air.chambers[0].state = .venting ∧ (chamberIn .venting).air.chambers[0].protective = false ∧
      (chamberIn .venting).air.chambers[0].owner = .posture ∧ (chamberIn .venting).air.chambers[0].slotRequest = false ∧
      (chamberIn .venting).pumpAtRest ∧ (chamberIn .venting).air.chambers[0].target = some 9 ∧ (9 : Word).toNat ≤ 9) ∧
    (base.air.chambers[0].state = .sealed ∧ base.crash.state ≠ .locked ∧
      (base.chamberConf 0).maxPressure < (501 : Word).toNat) ∧
    base.pumpOn = false ∧
    ((pumping 1).pumpOn = true ∧ (12 : Word).toNat ≤ 2 * (pumping 1).conf.pumpCurrent ∧
      2 * (pumping 1).conf.pumpCurrent < (13 : Word).toNat ∧ (pumping 1).air.overload < 2) := by decide

/-- A chamber of maximum pressure 500 that waits to fill, above it as it was lowered. -/
def aboveLowered : State :=
  let s := withChamber (fun c => { c with state := .fillWait, target := some 500, sample := some 600, lowered := true })
  { s with air := { s.air with claim := some .pump },
           budget := { s.budget with
             queue := [8], table := s.budget.table.set 8 ⟨.waiting, 6, some .pump, .limited5s, some 900000, 0⟩ } }

theorem witness_ChamberSamples_lowered :
    aboveLowered.atWork ∧ (aboveLowered.chamberConf 0).fitted = true ∧ aboveLowered.air.chambers[0].state = .fillWait ∧
      aboveLowered.air.chambers[0].lowered = true ∧ (aboveLowered.chamberConf 0).maxPressure < (501 : Word).toNat ∧
      aboveLowered.air.chambers[0].target = some 500 ∧ 500 ≤ (aboveLowered.chamberConf 0).maxPressure ∧
      aboveLowered.air.chambers[0].fillOnly = false ∧ aboveLowered.crashGuard = false ∧
      (∀ d : Fin 12, d ≠ 0 → aboveLowered.air.chambers[d].needsPump = false) ∧ aboveLowered.air.claim ≠ none ∧
      (∀ y ∈ aboveLowered.budget.queue, y = pumpClaimant) := by decide

/-- R145: a chamber in FILL_WAIT above its lowered maximum vents at its next sample and withdraws the claim; a lowered maximum
is marked at the application. -/
theorem test_lowered_maximum :
    let t := next (.pressureSample 0 501) aboveLowered
    let old := { conf with chambers := conf.chambers.set 0 ⟨true, .posture, 700, .none, 20, 0⟩ }
    t.air.chambers[0].state = .venting ∧ t.air.claim = none ∧ t.budget.table[8].state = .none ∧
      (next (.pressureSample 0 500) aboveLowered).air.chambers[0].state = .fillWait ∧
      ((base.ev.chamberApply old 0).air.chambers[0].lowered = true ∧
        (base.ev.chamberApply conf 0).air.chambers[0].lowered = false) := by decide +kernel

theorem witness_ChamberSamples_fill :
    ((pumping 0).atWork ∧ (pumping 0).air.chambers[0].state = .filling ∧ (pumping 0).air.chambers[0].owner = .posture ∧
      (pumping 0).air.chambers[0].target = some 9 ∧ 9 ≤ (9 : Word).toNat ∧
      (∀ d : Fin 12, d ≠ 0 → (pumping 0).air.chambers[d].needsPump = false) ∧ (pumping 0).air.claim ≠ none ∧
      (pumping 0).budget.queue = []) ∧
    ((8 : Word).toNat < 9 ∧ (8 : Word).toNat < ((pumping 0).chamberConf 0).maxPressure ∧
      (pumping 0).air.chambers[0].fillTime + 10 < 30000) ∧
    ((pumping 2).pumpOn = true ∧ 2 * (pumping 2).conf.pumpCurrent < (13 : Word).toNat ∧ (pumping 2).air.overload = 2 ∧
      ∀ c : Fin 12, (pumping 2).air.chambers[c].needsPump = true → (pumping 2).air.chambers[c].owner = .posture) := by
  decide +kernel

/-- A fetch of pattern 2 with words in the buffer. -/
def fetching (l : List Word) (w : Word) : State :=
  carrying (withMassage (fun m => { m with state := .fetching, pattern := some 1, buffer := l })) .patternFetch w

/-- Massage in a phase of that pattern, chamber 2 in a state; a pattern of two steps. -/
def inPhase (ph : MassagePhase) (n : Nat) (buffer : List Word) (f : Chamber → Chamber) : State :=
  { base with air := { base.air with
    massage := { base.air.massage with
      state := .running, pattern := some 1, buffer := buffer, intensity := 3, phase := some ph,
      phaseAt := some 1500000, sessionAt := some 90000000, mirrorKnown := 0x0302, passes := n },
    chambers := base.air.chambers.set 2 (f { base.air.chambers[2] with owner := .massage }) } }
def falling (n : Nat) (buffer : List Word) : State := inPhase .fall n buffer (fun x => { x with owner := .none })
def twoSteps : List Word := [bytes 2 2, 4, bytes 255 10, bytes 5 10, 8, bytes 100 0, bytes 0 0]

theorem witness_MassageEventsComplete :
    ((fetching [1, 0, 0] 20).onDport (cyc .patternFetch) 20 ∧ (fetching [1, 0, 0] 20).air.massage.state = .fetching ∧
      (fetching [1, 0, 0] 20).air.massage.pattern = some 1 ∧
      1 = patternSteps ((fetching [1, 0, 0] 20).air.massage.buffer ++ [20]) ∧
      (fetching [1, 0, 0] 20).air.massage.buffer.length < 4 * 1) ∧
    21 = patternSteps ((fetching [] 21).air.massage.buffer ++ [21]) ∧
    (kneading.air.massage.phase = some .rise ∧ kneading.air.massage.phaseAt = some 1500000 ∧ kneading.stepChambers = []) ∧
    (kneading.air.massage.sessionAt = some 2000000 ∧ ∀ c : Fin 12, kneading.air.chambers[c].owner ≠ .massage) ∧
    ((carrying kneading .massageMirror 9).onDport (cyc .massageMirror) 9 ∧
      kneading.air.massage.mirrorNow = some 0x0303 ∧ kneading.mirrorValue = 0x0303) := by decide

theorem witness_MassageEventsComplete_phases :
    (2 ∈ (inPhase .rise 0 pattern (fun x => { x with state := .venting, target := some 20 })).stepChambers ∧
      (inPhase .rise 0 pattern (fun x => { x with state := .venting, target := some 20 })).air.chambers[2].moving = true) ∧
    (lo (stepWord pattern 0 2) = 10 ∧ (inPhase .hold 0 pattern id).stepChambers = [2] ∧
      (inPhase .hold 0 pattern id).air.chambers[2].borrowed = false ∧ (inPhase .hold 0 pattern id).pumpAtRest) ∧
    (0 + 1 < patternSteps twoSteps ∧ (falling 0 twoSteps).air.massage.phase = some .fall) ∧
    (patternSteps pattern ≤ 0 + 1 ∧ hi (pattern.getD 0 0) = 2 ∧ min 255 (0 + 1) < 2) ∧
    (2 ≤ min 255 (1 + 1) ∧ (falling 1 pattern).air.massage.passes = 1 ∧
      ∀ c : Fin 12, (falling 1 pattern).air.chambers[c].owner ≠ .massage) := by decide

/-- Heater 0 at a level, cold; stepping down; with its mirror write on the D-port. -/
def heater (n : Nat) : State := withZone 0 (fun z => { z with level := n })
def stepping : State := withZone 0 (fun z => { z with level := 3, stepSince := some 500 })
def mirroring : State := carrying (withZone 0 (fun z => { z with level := 3, mirrorNow := some 3 })) (.levelMirror 0) 9

theorem witness_ClimateEventsComplete :
    (base.atWork ∧ (base.zoneConf 4).fitted = true ∧ base.zones[4].state = .off ∧ base.zones[4].ack = none ∧
      base.zones[4].onThrough = false) ∧
    ((base.zoneConf 0).fitted = true ∧ base.zones[0].level = 0 ∧
      (276 : Int) = clampInt (-400) 1500 (((((7400 : Word).toNat : Int) - ((base.zoneConf 0).ntcOffset : Int)) * 10).tdiv
        ((base.zoneConf 0).ntcGain : Int)) ∧ (276 : Int) ≤ ((base.zoneConf 0).overTemp : Int)) ∧
    ((heater 1).zones[0].level ≠ 0 ∧ (276 : Int) < (ZoneConf.target ((heater 1).zoneConf 0) (heater 1).zones[0].level : Int) - 10 ∧
      (heater 1).claimFits (zoneClaimant 0)) ∧
    (stepping.zones[0].stepSince = some 500 ∧ stepping.zones[0].mirrorNow = none ∧ stepping.zones[0].ack = none) ∧
    (mirroring.onDport (cyc (.levelMirror 0)) 9 ∧ mirroring.zones[0].mirrorNow = some mirroring.zones[0].level) := by decide

/-- ARMED, HOLDING with nothing to restore. -/
def armed : State :=
  { withCrash (fun c => { c with state := .armed, armAt := some 1500000 }) with
    budget := { base.budget with reservation := 8 } }
def inHold (f : Crash → Crash) : State :=
  { withCrash f with budget := { base.budget with crashHold := true }, panel := { base.panel with shown := .disabled } }
def holding : State := inHold (fun c => { c with state := .holding, holdAt := some 1500000, drops := 2 })

theorem witness_ArmedKeepsReservation :
    (base.uport.isHeld = false ∧ base.link.state = .waitSync ∧ base.link.ready = true ∧ base.crash.state = .idle ∧
      base.atRest) ∧
    (armed.link.state = .waitSync ∧ armed.link.ready = true ∧ armed.crash.state = .armed ∧
      armed.crash.armAt = some 1500000 ∧ armed.budget.queue = []) := by decide

theorem witness_PullDrivesCrashAxis :
    base.uport = .idle ∧ base.cfg.state = .active ∧ base.atRest ∧ base.air.massage.mirrorNow = none ∧
    base.crashAxis 0 = true ∧ (∀ j : Fin 8, j ≠ 0 → base.crashAxis j = false) ∧
    (∀ c : Fin 12, base.crashChamber c = false) ∧ base.axes[0].referenced = true ∧
    base.axes[0].count ≠ (base.axisConf 0).crashTarget := by decide

/-- PULLING with the leg of axis 0 requested, of position or of time kind; with a crash chamber still moving. -/
def pulling (s : State) (l : CrashLeg) (x : SnapAxis) : State :=
  { s with
    crash := { s.crash with
      state := .pulling, pullAt := some 1500000, pullTime := 700000, kind := .pull, legs := [l],
      snapAxes := (Vector.replicate 8 none).set 0 (some x) },
    budget := { s.budget with crashHold := true, table := s.budget.table.set 0 ⟨.granted, 8, some .crash, .unlimited, none, 1⟩ } }
def positionLeg : State :=
  pulling (moving (.crashTo 12000) (fun a => { a with mover := some .crash })) ⟨0, true, .requested, none, false⟩ (.position 5000)
def timeLeg : State :=
  pulling (moving (.crashTime .upForward) (fun a => { a with mover := some .crash, referenced := false }))
    ⟨0, false, .requested, none, true⟩ (.time 0 .upForward)
def chamberLeft : State :=
  pulling (withChamber (fun x => { x with owner := .crash, state := .venting, target := some 9 }))
    ⟨0, true, .ended, some .done, false⟩ (.position 5000)

theorem witness_HoldingBeginsAndEnds :
    (positionLeg.crash.state = .pulling ∧ positionLeg.crash.pullAt = some 1500000 ∧ positionLeg.crash.kind = .pull ∧
      positionLeg.crash.legs = [⟨0, true, .requested, none, false⟩] ∧ positionLeg.axes[0].state = .running ∧
      positionLeg.axes[0].mover = some .crash ∧ positionLeg.axes[0].goal = some (.crashTo 12000) ∧
      positionLeg.axes[0].owed = some (.crashTo 12000) ∧ positionLeg.axes[0].pending = none ∧
      positionLeg.axes[0].grant = .held ∧ positionLeg.axes[0].drive ≠ none ∧ positionLeg.budget.queue = [] ∧
      positionLeg.pumpAtRest ∧ (∀ c : Fin 15, c ≠ axisClaimant 0 → positionLeg.budget.table[c].priority ≠ some .crash) ∧
      (∀ c : Fin 12, positionLeg.air.chambers[c].owner ≠ .crash) ∧
      positionLeg.crash.snapAxes[0] = some (.position 5000)) ∧
    (timeLeg.crash.legs = [⟨0, false, .requested, none, true⟩] ∧ timeLeg.axes[0].goal = some (.crashTime .upForward) ∧
      timeLeg.axes[0].owed = some (.crashTime .upForward) ∧ timeLeg.crash.snapAxes[0] = some (.time 0 .upForward)) ∧
    ((∀ l ∈ chamberLeft.crash.legs, l.phase ≠ .requested) ∧ chamberLeft.air.chambers[0].owner = .crash ∧
      chamberLeft.air.chambers[0].moving = true) := by decide

theorem witness_HoldingBeginsAndEnds_restore :
    (holding.atRest ∧ holding.crash.state = .holding ∧ holding.panel.shown = .disabled ∧ holding.crash.pullAt = none ∧
      (∀ i : Fin 8, holding.crash.snapAxes[i] = none) ∧ holding.crash.holdAt = some 1500000 ∧
      holding.link.state = .waitSync ∧ holding.link.ready = true) ∧
    (Vector.set (Vector.replicate 8 (none : Option SnapAxis)) 0 (some (.position 7000)))[(0 : Fin 8)] = some (.position 7000) ∧
    ((holding.axisConf 0).fitted = true ∧ holding.axes[0].referenced = true ∧ 7000 ≠ holding.axes[0].count ∧
      holding.axes[0].atLimit (.restoreTo 7000) (toward 7000 holding.axes[0].count) = false ∧
      holding.budget.table[axisClaimant 0].units ≤ holding.budget.grantable ∧
      holding.budget.table[axisClaimant 0].units ≤ holding.conf.motorCap) := by decide

/-- R172, R175: a restore leg whose axis is at its snapshot position already is FINISHED at once, and the restore with it. -/
theorem test_restore_at_position :
    let t := next .crashHoldTimerExpiry { holding with crash := { holding.crash with
      snapAxes := (Vector.replicate 8 none).set 0 (some (.position 5000)) } }
    t.crash.state = .idle ∧ t.crash.legs = [⟨0, true, .finished, some .done, false⟩] ∧ t.axes[0].state = .parking := by
  decide +kernel

/-- R171: an axis found STOPPING, or in the dead time of REVERSING, at its crash target ends REACHED at once, its grant
released. -/
theorem test_pull_at_target (st : AxisState) (h : st = .stopping ∨ st = .reversing) :
    let t := (withAxis (fun a => { a with state := st, mover := some .image, count := 12000 })).ev.takeSnapshot.pullAxes
      |>.settled base
    t.crash.legs = [⟨0, true, .finished, some .done, false⟩] ∧ t.axes[0].state = .stopping ∧ t.axes[0].deadAt = none ∧
      t.budget.table[0].state = .none := by
  rcases h with rfl | rfl <;> decide +kernel

/-- R78, R86: with the reservation of ARMED set, the release of a crash-role axis leaves 4 units, and a waiting claim of 8
waits on. -/
theorem test_armed_release_under_reservation :
    let s := granted base
    let e := { s with budget := { s.budget with
      effective := 12, queue := [1], table := s.budget.table.set 1 ⟨.waiting, 8, some .motion, .unlimited, some 1, 0⟩ } }.ev
    (e.budgetArm.releaseClaim 0).budget.table[1].state = .waiting ∧ (e.releaseClaim 0).budget.table[1].state = .granted := by
  decide +kernel

/-- R75, R151: a fan shed, forced off and claimed again in one event waits in DEMAND. -/
theorem test_shed_of_a_released_claim :
    let s := withZone 4 (fun z => { z with state := .on, level := 1 })
    let e := { s with budget := { s.budget with
      effective := 0, table := s.budget.table.set 13 ⟨.granted, 4, some .fan, .unlimited, none, 1⟩ } }.ev
    (((e.shedOne 13).zoneRelease 4 .off).zoneClaim 4 |>.settled base).zones[4].state = .demand := by
  decide +kernel

/-- R70: the urgent marker of a CRASH request taken in PARKING is offered with the last of the writes before it, though the
axis has parked again. -/
theorem test_crash_marker_after_second_parking :
    let s := carrying (withAxis (fun a => { a with
      state := .parking, mover := some .crash, parkLeft := 4, markerOwed := [1] })) (.parking 0) 0
    (next .parkingWriteComplete s).ins.queue = [writeCycle (.marker 0) 0x100A 3 true] ∧
      (next .parkingWriteComplete s).axes[0].markerOwed = [] ∧ (next .parkingWriteComplete s).axes[0].state = .parking := by
  decide +kernel

/-- R173: the last chamber of owner CRASH to stop moving is one still returning: HOLDING is entered in that event. -/
theorem test_returning_chamber_ends_pulling :
    (next (.pressureSample 0 9) { withChamber (fun c => { c with
      owner := .crash, returning := true, state := .venting, posture := some 9, target := some 9 }) with
      crash := { base.crash with state := .pulling, kind := .pull, pullAt := some 1500000 } }).crash.state = .holding := by
  decide +kernel

theorem witness_ImpactLocks : base.uport = .idle ∧ base.link.state = .waitSync ∧ base.link.ready = true ∧
    base.cfg.state = .active ∧ base.atRest ∧ base.crash.state = .idle := by decide

/-- The receiver in the course of a frame: edges 100 microseconds apart, the last one now, or `w` apart; a field whose
bits the line has given. -/
def syncing (l : List Nat) : State := withLink (fun x => { x with state := .sync, bitTime := 50, edges := l })
def edges (w n : Nat) : List Nat := (List.range n).map (fun j => 1000000 - w * (n - 1 - j))
def inFields : State := withLink (fun x => { x with state := .fields })
def inField (c : Option Byte) (n : Nat) (b : Byte) : State :=
  withLink (fun l => { l with
    state := .fields, bitTime := 101, fieldAt := some 999100, lineHigh := true, command := c, expected := n,
    levels := [(999100, false)] ++ (List.range 8).map (fun k => (999201 + k * 101, b.getLsbD k)) ++ [(1000009, true)] })

theorem witness_LinkFraming_starts :
    ((withLink (fun x => { x with ready := false })).link.state = .waitSync ∧
      (withLink (fun x => { x with ready := false })).link.lineHigh = true ∧
      (withLink (fun x => { x with ready := false })).link.ready = false) ∧
    (base.link.state = .waitSync ∧ base.link.ready = true) := by decide

theorem witness_LinkFraming_edges :
    ((syncing [1, 2]).link.state = .sync ∧ (syncing [1, 2]).link.edges.length < 3) ∧
    ((syncing (edges 100 3)).link.edges = [999800] ++ [999900, 1000000] ∧
      1000000 - 999900 < 5 * ((1000121 - 1000000) - (1000000 - 999900))) ∧
    (5 * ((1000120 - 1000000) - (1000000 - 999900)) ≤ 1000000 - 999900 ∧
      5 * ((1000000 - 999900) - (1000120 - 1000000)) ≤ 1000000 - 999900) ∧
    ((syncing (edges 100 9)).link.edges = (edges 100 9).take 7 ++ [999900, 1000000] ∧ ((edges 100 9).take 7).length = 7 ∧
      (syncing (edges 100 9)).link.edges[1]? = some 999300 ∧ 20 ≤ (1000120 - 999300) / 8 ∧ (1000120 - 999300) / 8 ≤ 200) ∧
    ((syncing (edges 300 9)).link.edges[1]? = some 997900 ∧ 200 < (1000300 - 997900) / 8) ∧
    (inFields.link.state = .fields ∧ inFields.link.fieldAt = none ∧ (inField none 0 0x32).link.fieldAt = some 999100) := by
  decide

theorem witness_LinkFraming_fields :
    ((withLink (fun x => { x with state := .sync, edges := edges 100 10, levels := [(1000000, true)] })).link.lineHigh = true ∧
      (withLink (fun x => { x with state := .sync, edges := edges 100 10, levels := [(1000000, true)] })).link.edges[9]? =
        some 1000000) ∧
    ((inField none 0 0x32).link.lineHigh = true ∧ (inField none 0 0x32).link.command = none ∧ isCommand 0x32 = true ∧
      (∀ k : Fin 8, (0x32 : Byte).getLsbD k.val = (inField none 0 0x32).link.levelAt (999100 + (2 * k.val + 3) * 101 / 2)) ∧
      (inField none 0 0x32).link.levelAt (999100 + 19 * 101 / 2) = true) ∧
    ((inField (some 0x32) 1 0xA7).link.expected = 1 ∧
      ∀ k : Fin 8, (0xA7 : Byte).getLsbD k.val =
        (inField (some 0x32) 1 0xA7).link.levelAt (999100 + (2 * k.val + 3) * 101 / 2)) := by decide

/-- TURNAROUND and REPLY. -/
def turning : State := withLink (fun x => { x with state := .turnaround, turnAt := some 1002000, bitTime := 40 })
def replying : State :=
  withLink (fun x => { x with
    state := .reply, replyAt := some 1002000, bitTime := 40, reply := some [0x55, 0x45, 1, 0, 0x0C] })

theorem witness_LinkReplies :
    (base.link.state = .waitSync ∧ base.link.ready = true ∧ 20 ≤ 200) ∧
    (turning.link.state = .turnaround ∧ turning.link.turnAt = some 1002000 ∧
      (1 : Byte).toNat = (turning.crashStepCount * 16 + crashCode turning.crash.state) % 256 ∧
      (0 : Byte).toNat = (turning.legCount .done * 16 + turning.legCount .failed) % 256) ∧
    (replying.link.state = .reply ∧ replying.link.replyAt = some 1002000 ∧
      replying.link.reply = some [0x55, 0x45, 1, 0, 0x0C] ∧ 50 * replying.link.bitTime ≤ 1002000) ∧
    (replying.now = 1002000 - 50 * replying.link.bitTime + 0 * replying.link.bitTime ∧
      ¬ releasedBit [0x55, 0x45, 1, 0, 0x0C] 0 ∧ releasedBit [0x55, 0x45, 1, 0, 0x0C] 1 ∧
      replying.now ≤ 1002000 - 50 * replying.link.bitTime + 1 * replying.link.bitTime + replying.link.bitTime / 2) := by
  decide

theorem witness_LinkErrorsDiscardFrame :
    ((syncing [1]).inReset = false ∧ (syncing [1]).uport.isHeld = false ∧ (syncing [1]).link.state = .sync) ∧
    ((inField none 0 0x77).link.canFail .unknownCommand 0x77 = true ∧
      (inField (some 0x33) 0 0x77).link.canFail .check 0x77 = true) := by decide

theorem witness_LinkEventsTouchOnlyTheLink : turning.path.resync = false ∧
    (match exec .turnaroundEnd turning with
     | .next t => t.link.state == .reply
     | _ => false) = true := by decide

/-- The writer with work in flight. -/
def writing (f : Journal → Journal) (p : Purpose) (w : Word) : State := carrying { base with journal := f base.journal } p w
def opening (k : Fin 4) : State := writing (fun j => { j with ring := .opening, work := some (.init k) }) .journalInit 0
def entry : Entry := ⟨0, .supplySag, 0, 0xFFFF, 85⟩
def appending : State :=
  writing (fun j => { j with work := some .index, staging := [entry], appending := true }) .append 0
def refreshing : State := writing (fun j => { j with work := some (.check true) }) .headerRefresh 0
def recounting : State := writing (fun j => { j with work := some (.recount 5), recount := [5] }) .recount 0x1005

theorem witness_JournalWriterGoesOn :
    ((opening 2).onDport (cyc .journalInit) 0 ∧ (opening 2).journal.stale = false ∧
      (opening 2).journal.work = some (.init 2) ∧ (opening 2).cfg.step ≠ .journalInit ∧ (opening 2).journal.ring = .opening) ∧
    (opening 3).journal.work = some (.init 3) ∧
    (refreshing.onDport (cyc .headerRefresh) 0 ∧ refreshing.journal.ring = .ready ∧ refreshing.journal.refresh = false ∧
      refreshing.journal.staging = [] ∧ refreshing.journal.work = some (.check true) ∧ refreshing.journal.recount = []) ∧
    (recounting.onDport (cyc .recount) 0x1005 ∧ recounting.journal.work = some (.recount 5) ∧
      recounting.journal.recount = [5] ∧ classOfCode (field 0x1005 12 4) = some .crash) := by decide

theorem witness_AppendJoinsRing : appending.onDport (cyc .append) 0 ∧ appending.journal.stale = false ∧
    appending.journal.work = some .index ∧ appending.journal.staging = [entry] ∧ appending.working = true ∧
    appending.conf.notify.getLsbD entry.code.cls.index.val = true := by decide

theorem witness_StepKeepsQueuesAndDrives :
    (base.withCommand .impact).queuesSound ∧ (base.withCommand .impact).drivesSound ∧
      (match step (base.withCommand .impact) with
       | .next t => t.crash.state == .locked
       | _ => false) = true := by decide +kernel

end Sys2Proof.Tests
end

/-! PROOFS. A host write that reaches the owner of a CONTROL slot, followed to the end of its event: refused, held or
taken (R6, R11, R18, R40); and the slots DUTY, LIMIT_LO and LIMIT_HI (R65). -/

namespace Sys2Proof.Machine

/-! ## The rows of the three slots are host writes -/

theorem exec_duty (a : Addr) (v : Word) (s : State) :
    exec (.duty a v) s = s.event (fun e => e.hostWrite a v) := rfl

theorem exec_limitLo (a : Addr) (v : Word) (s : State) :
    exec (.limitLo a v) s = s.event (fun e => e.hostWrite a v) := rfl

theorem exec_limitHi (a : Addr) (v : Word) (s : State) :
    exec (.limitHi a v) s = s.event (fun e => e.hostWrite a v) := rfl

/-! ## Neutral writes cancelled (R40) -/

/-- Offering the next neutral write takes at most its slot off the list of those still to be written. -/
theorem nextNeutral_sublist (e : Ev) : e.nextNeutral.cfg.neutralLeft.Sublist e.cfg.neutralLeft := by
  unfold Ev.nextNeutral
  split
  · rename_i c rest hl
    rw [hl]
    exact List.sublist_cons_self c rest
  · exact List.Sublist.refl _

/-- Cancelling a neutral write only takes slots off the list of those still to be written. -/
theorem cancelNeutral_sublist (e : Ev) (c : CSlot) :
    (e.cancelNeutral c).cfg.neutralLeft.Sublist e.cfg.neutralLeft := by
  unfold Ev.cancelNeutral
  split
  · exact List.filter_sublist
  · split
    · exact nextNeutral_sublist _
    · exact List.Sublist.refl _

/-- The state in which an owner acts on a taken or refused write: the accesses pending for the address are gone, and
a neutral write to the slot may have been cancelled (R18, R40). -/
theorem cancelled_spec (e : Ev) (c : CSlot) (a : Addr) :
    ∃ p q l n, l.Sublist e.cfg.neutralLeft ∧ (e.cancelLate a).cancelNeutral c =
      ({ e with path := p, ins := q, cfg := { e.cfg with neutralLeft := l, neutralNow := n } } : Ev) := by
  obtain ⟨p, q, hlate⟩ := cancelLate_spec e a
  obtain ⟨q', l, n, hneutral⟩ := cancelNeutral_spec (e.withQueues p q) c
  have hsub := cancelNeutral_sublist (e.withQueues p q) c
  rw [hneutral] at hsub
  exact ⟨p, q', l, n, hsub, by rw [hlate, hneutral]; rfl⟩

/-! ## The end of the event -/

/-- Outside a reset an event runs. -/
theorem running_eq_event (s : State) (f : Ev → Ev) (hr : s.inReset = false) : s.running f = s.event f := by
  simp [State.running, hr]

/-- What is on the U-port has no part in an owner's report that its slot is free. -/
theorem slotFreed_uport (s : State) (u : UPort) (c : CSlot) : s.slotFreed { s with uport := u } c = false := by
  have hbusy : ∀ c, State.slotBusy { s with uport := u } c = s.slotBusy c := fun c => by cases c <;> rfl
  have hcheck : s.checkEnded { s with uport := u } = false := by simp [State.checkEnded]
  have hrecall : State.recallActive { s with uport := u } = s.recallActive := rfl
  match c with
  | .recall => cases hst : s.engine.store <;> simp [State.slotFreed, hst, hcheck]
  | .store =>
    cases hst : s.engine.store <;> cases hra : s.recallActive <;> simp [State.slotFreed, hst, hcheck, hrecall, hra]
  | .massage | .panelEnable | .crashClear | .axTarget _ | .axJog _ | .axDuty _ | .axLimitLo _ | .axLimitHi _
  | .airTarget _ | .level _ | .readIndex => simp [State.slotFreed, hbusy]

/-- The reports of an event that does nothing but hold a write concern the catch-up list alone. -/
theorem reports_held (s : State) (e : Ev) (a : Addr) (v : Word) (c : CSlot) (t : Nat)
    (he : e.toState = { s with uport := .held a v c t }) : ∃ p q, e.reports s = e.withQueues p q := by
  have hu : e.uport = .held a v c t := by rw [he]
  have hfreed : s.slotFreed e.toState c = false := he ▸ slotFreed_uport s _ c
  have hheld : e.reofferHeld s = e := by simp [Ev.reofferHeld, hu, hfreed]
  unfold Ev.reports
  rw [hheld]
  exact readListed_spec s e

/-- The end of an event in which nothing is told and the reports concern the catch-up list alone: everything but the
path decoder and the insert queue stands. -/
theorem settled_of_reports (old : State) (e : Ev) (h : e.sigs = []) (hr : ∃ p q, e.reports old = e.withQueues p q) :
    ∃ p q, e.settled old = e.withQueues p q := by
  obtain ⟨p, q, hr⟩ := hr
  obtain ⟨p', q', hs⟩ := sweepStart_spec (e.withQueues p q)
  refine ⟨p', q', ?_⟩
  unfold Ev.settled
  simp only [drain_nil _ e h, hr, drain_nil _ (e.withQueues p q) h, hs]
  rfl

/-- A REFUSAL entry concerns the journal writer alone, and calls for nothing else (R10, R181). -/
theorem refusal_spec (e : Ev) (code : EntryCode) (a : Addr) (v : Word) :
    ∃ j l, e.refusal code a v = e.withWriter j e.ins (e.sigs ++ l) ∧ ∀ x ∈ l, x = Sig.journal := by
  unfold Ev.refusal Ev.handHigh
  split
  · exact ⟨e.journal, [], by rw [List.append_nil]; rfl, by simp⟩
  · exact ⟨_, [.journal], rfl, by simp⟩

/-! ## The three answers to a write that reaches its owner -/

section reaches
variable {s : State} {a : Addr} {c : CSlot} {v : Word}

/-- A refused write leaves the part as it was but for its REFUSED_VALUE entry. The owner of STORE alone adds an entry
of its own (R95). -/
theorem hostWrite_refused (h : s.reaches a c) (hc : c ≠ .store) (hans : s.answer c v = .refused) :
    ∃ t, s.event (fun e => e.hostWrite a v) = .next t ∧ t.agreesButNeutrals s := by
  have hoffer := hostWrite_reaches s a v c h
  obtain ⟨⟨hr, -⟩, hidle, -⟩ := h
  obtain ⟨p, q, l, n, hsub, hcancel⟩ := cancelled_spec s.ev c a
  have hown : ∀ e : Ev, e.ownRefusal c v = e := fun e => by
    cases c with
    | store => exact absurd rfl hc
    | _ => rfl
  obtain ⟨j, sigs, hrefusal, hsigs⟩ := refusal_spec
    ((s.ev.cancelLate a).cancelNeutral c).finishAccess .refusedValue a v
  have hwrite : s.ev.hostWrite a v =
      (((s.ev.cancelLate a).cancelNeutral c).finishAccess).withWriter j q sigs := by
    rw [hoffer]
    unfold Ev.offerSlot
    rw [ev_toState, hans]
    unfold Ev.refuseWrite
    dsimp only
    rw [hown, hrefusal, hcancel]
    rfl
  rw [hcancel] at hwrite
  have hcalm : (s.ev.hostWrite a v).calm := by
    rw [hwrite]
    intro x hx
    rw [hsigs x hx]
    rfl
  obtain ⟨p', q', j', hrun⟩ := running_calm s (fun e => e.hostWrite a v) hr hcalm (by rw [hwrite]; rfl)
  rw [running_eq_event s _ hr] at hrun
  refine ⟨_, hrun, ?_, ?_⟩
  · rw [hwrite]
    simp [Ev.withWriter, Ev.finishAccess, hidle]
  · rw [hwrite]
    exact hsub

/-- A busy write is held until the hold limit, and nothing else differs (R11). -/
theorem hostWrite_busy (h : s.reaches a c) (hans : s.answer c v = .busy) :
    ∃ t, s.event (fun e => e.hostWrite a v) = .next t ∧
      t.agrees { s with uport := .held a v c (s.now + s.path.holdLimit) } := by
  have hwrite : s.ev.hostWrite a v =
      ({ s.ev with uport := .held a v c (s.now + s.path.holdLimit) } : Ev) := by
    rw [hostWrite_reaches s a v c h]
    unfold Ev.offerSlot
    rw [ev_toState, hans]
    rfl
  have hreports := reports_held s (s.ev.hostWrite a v) a v c _ (by rw [hwrite]; rfl)
  obtain ⟨p, q, hsettled⟩ := settled_of_reports s _ (by rw [hwrite]; rfl) hreports
  refine ⟨_, rfl, ?_⟩
  rw [hsettled, hwrite]
  rfl

/-- A taken write is forwarded; where its owner's act is on the records of the axes alone, they are all that differs
besides (R6). -/
theorem hostWrite_taken_axes (h : s.reaches a c) (hans : s.answer c v = .taken) (axes : Vector Axis 8)
    (htake : ∀ e : Ev, e.axes = s.axes → e.take c v false = { e with axes := axes }) :
    ∃ t, s.event (fun e => e.hostWrite a v) = .next t ∧
      t.agreesButNeutrals { s with uport := .waiting (.write a v .none), axes := axes } := by
  have hoffer := hostWrite_reaches s a v c h
  obtain ⟨⟨hr, -⟩, -⟩ := h
  obtain ⟨p, q, l, n, hsub, hcancel⟩ := cancelled_spec s.ev c a
  have hwrite : s.ev.hostWrite a v =
      ({ s.ev with path := p, ins := q, uport := .waiting (.write a v .none), axes := axes,
                   cfg := { s.cfg with neutralLeft := l, neutralNow := n } } : Ev) := by
    rw [hoffer]
    unfold Ev.offerSlot
    rw [ev_toState, hans]
    unfold Ev.takeWrite
    dsimp only
    rw [hcancel, htake _ rfl]
    rfl
  obtain ⟨p', q', hrun⟩ := running_nil s (fun e => e.hostWrite a v) hr (by rw [hwrite]; rfl) (by rw [hwrite]; rfl)
  rw [running_eq_event s _ hr] at hrun
  refine ⟨_, hrun, ?_, ?_⟩
  · rw [hwrite]
    rfl
  · rw [hwrite]
    exact hsub

end reaches

/-! ## The slots of R65 -/

section settingAnswer
variable {s : State} {i : Fin 8} {v : Word} {inRange : Bool}

theorem settingAnswer_outOfRange (hv : v ≠ absent) (hr : inRange = false) :
    s.settingAnswer i v inRange = .refused :=
  if_pos (by simp [hv, hr])

theorem settingAnswer_inRange (hv : v = absent ∨ inRange = true) :
    s.settingAnswer i v inRange = if s.axes[i].state != .idle then .busy else .taken :=
  if_neg (by rcases hv with rfl | rfl <;> simp)

theorem settingAnswer_not_idle (hv : v = absent ∨ inRange = true) (hs : s.axes[i].state ≠ .idle) :
    s.settingAnswer i v inRange = .busy := by
  rw [settingAnswer_inRange hv, if_pos (bne_iff_ne.mpr hs)]

theorem settingAnswer_idle (hv : v = absent ∨ inRange = true) (hs : s.axes[i].state = .idle) :
    s.settingAnswer i v inRange = .taken := by
  rw [settingAnswer_inRange hv, hs]
  rfl

end settingAnswer

/-- `c` is a slot of axis `i` of the kind of R65: its owner answers by a range of the values, and a taken value that is
not the absent value is put in the record of the axis. -/
structure SettingSlot (c : CSlot) (i : Fin 8) (inRange : State → Word → Bool) (put : Axis → Word → Axis) :
    Prop where
  not_store : c ≠ .store
  answer_eq : ∀ (s : State) (v : Word), s.answer c v = s.settingAnswer i v (inRange s v)
  take_eq : ∀ (e : Ev) (v : Word), e.take c v false =
    { e with axes := if v = absent then e.axes else e.axes.set i (put e.axes[i] v) }

theorem settingSlot_duty (i : Fin 8) : SettingSlot (.axDuty i) i
    (fun _ v => decide (20 ≤ v.toNat) && decide (v.toNat ≤ 100)) (fun x v => { x with duty := v.toNat }) where
  not_store := nofun
  answer_eq _ _ := rfl
  take_eq e v := by by_cases hv : v = absent <;> simp [Ev.take, Ev.dutyTake, Ev.setAxis, hv]

theorem settingSlot_limitLo (i : Fin 8) : SettingSlot (.axLimitLo i) i
    (fun s v => decide (v.toNat ≤ (s.axisConf i).stroke) && decide (v.toNat < s.axes[i].limitHi))
    (fun x v => { x with limitLo := v.toNat }) where
  not_store := nofun
  answer_eq _ _ := rfl
  take_eq e v := by by_cases hv : v = absent <;> simp [Ev.take, Ev.limitLoTake, Ev.setAxis, hv]

theorem settingSlot_limitHi (i : Fin 8) : SettingSlot (.axLimitHi i) i
    (fun s v => decide (v.toNat ≤ (s.axisConf i).stroke) && decide (s.axes[i].limitLo < v.toNat))
    (fun x v => { x with limitHi := v.toNat }) where
  not_store := nofun
  answer_eq _ _ := rfl
  take_eq e v := by by_cases hv : v = absent <;> simp [Ev.take, Ev.limitHiTake, Ev.setAxis, hv]

/-- A range of two bounds is left where one of them fails, and met where both hold. -/
theorem range_left {p q : Prop} [Decidable p] [Decidable q] (h : ¬ (p ∧ q)) : (decide p && decide q) = false := by
  rw [← Bool.decide_and]
  exact decide_eq_false h

theorem range_met {p q : Prop} [Decidable p] [Decidable q] (h : p ∧ q) : (decide p && decide q) = true := by
  rw [← Bool.decide_and]
  exact decide_eq_true h

/-- R65 for a slot of its kind: refused out of range, held in any state but IDLE, taken in IDLE. -/
theorem settingWrite_answered {c : CSlot} {i : Fin 8} {inRange : State → Word → Bool} {put : Axis → Word → Axis}
    (hslot : SettingSlot c i inRange put) {s : State} {a : Addr} {v : Word} (h : s.reaches a c) :
    (v ≠ absent → inRange s v = false →
      ∃ t, s.event (fun e => e.hostWrite a v) = .next t ∧ t.agreesButNeutrals s) ∧
    (v = absent ∨ inRange s v = true →
      (s.axes[i].state ≠ .idle → ∃ t, s.event (fun e => e.hostWrite a v) = .next t ∧
        t.agrees { s with uport := .held a v c (s.now + s.path.holdLimit) }) ∧
      (s.axes[i].state = .idle → ∃ t, s.event (fun e => e.hostWrite a v) = .next t ∧
        t.agreesButNeutrals { s with
          uport := .waiting (.write a v .none),
          axes := if v = absent then s.axes else s.axes.set i (put s.axes[i] v) })) := by
  have hans := hslot.answer_eq s v
  refine ⟨fun hv hr => ?_, fun hv => ⟨fun hs => ?_, fun hs => ?_⟩⟩
  · exact hostWrite_refused h hslot.not_store (hans.trans (settingAnswer_outOfRange hv hr))
  · exact hostWrite_busy h (hans.trans (settingAnswer_not_idle hv hs))
  · refine hostWrite_taken_axes h (hans.trans (settingAnswer_idle hv hs)) _ fun e he => ?_
    rw [hslot.take_eq e v, he]

/-- Settles O17: each of the three slots is of the kind of R65, with its own range and its own field. -/
theorem settingWritesAnswered : Obligations.SettingWritesAnswered := by
  unfold Obligations.SettingWritesAnswered
  intro s a v i
  refine ⟨fun h => ?_, fun h => ?_, fun h => ?_, rfl, rfl, rfl⟩
  · obtain ⟨hout, hin⟩ := settingWrite_answered (settingSlot_duty i) (v := v) h
    rw [exec_duty]
    exact ⟨fun hv hr => hout hv (range_left (by omega)), fun hv => hin (hv.imp_right range_met)⟩
  · obtain ⟨hout, hin⟩ := settingWrite_answered (settingSlot_limitLo i) (v := v) h
    rw [exec_limitLo]
    exact ⟨fun hv hr => hout hv (range_left (by omega)), fun hv => hin (hv.imp_right range_met)⟩
  · obtain ⟨hout, hin⟩ := settingWrite_answered (settingSlot_limitHi i) (v := v) h
    rw [exec_limitHi]
    exact ⟨fun hv hr => hout hv (range_left (by omega)), fun hv => hin (hv.imp_right range_met)⟩

end Sys2Proof.Machine

/-! PROOFS. The CRC-8 of R187: one shift, one byte, a list of bytes, the words of a record, its check word (R28) and the
bytes of a link frame. -/

namespace Sys2Proof.Machine

/-! ## One shift, one byte, a list of bytes -/

/-- The register of numbers shifts as the register of 8 bits does: the leaving bit is its most significant bit. -/
theorem crcShift_toNat (r : BitVec 8) :
    crcShift r.toNat = (if r.msb then (r <<< 1) ^^^ 0x2F else r <<< 1).toNat := by
  have hr := r.isLt
  have hmsb : r.msb = decide (128 ≤ r.toNat) := BitVec.msb_eq_decide r
  unfold crcShift
  by_cases h : 128 ≤ r.toNat
  · simp [hmsb, h, BitVec.toNat_xor, BitVec.toNat_shiftLeft, Nat.shiftLeft_eq]
  · have hlow : r.toNat * 2 < 256 := by omega
    simp [hmsb, h, BitVec.toNat_shiftLeft, Nat.shiftLeft_eq, Nat.mod_eq_of_lt hlow]

/-- A shift leaves 8 bits, whatever the register held. -/
theorem crcShift_lt (r : Nat) : crcShift r < 256 := by
  unfold crcShift
  split
  · exact Nat.xor_lt_two_pow (n := 8) (Nat.mod_lt _ (by decide)) (by decide)
  · omega

theorem crcByte_eq_iterate (r b : Nat) : crcByte r b = crcShift^[8] (r ^^^ b) := by
  simp only [crcByte, Function.iterate_succ_apply, Function.iterate_zero_apply]

theorem crcByte_lt (r b : Nat) : crcByte r b < 256 := crcShift_lt _

theorem crc8_concat (l : List Nat) (b : Nat) : crc8 (l ++ [b]) = crcByte (crc8 l) b :=
  List.foldl_concat ..

theorem crc8_lt (l : List Nat) : crc8 l < 256 := by
  induction l using List.reverseRecOn with
  | nil => decide
  | append_singleton l b _ => exact crc8_concat l b ▸ crcByte_lt _ b

/-! ## Records -/

/-- The words of a record enter as their bytes, high byte first. -/
theorem crcWords_eq_crc8 (ws : List Word) : crcWords ws = crc8 (ws.flatMap fun w => [hi w, lo w]) := by
  simp only [crcWords, crc8, List.foldl_flatMap, List.foldl_cons, List.foldl_nil]

theorem crcWords_lt (ws : List Word) : crcWords ws < 256 :=
  crcWords_eq_crc8 ws ▸ crc8_lt _

/-- A word is its two bytes put together. -/
theorem bytes_hi_lo (w : Word) : bytes (hi w) (lo w) = w := by
  have hw := w.isLt
  apply BitVec.eq_of_toNat_eq
  simp only [bytes, toWord, hi, lo, BitVec.toNat_ofNat]
  omega

theorem eq_bytes_iff {w : Word} {h l : Nat} (hh : h < 256) (hl : l < 256) : w = bytes h l ↔ hi w = h ∧ lo w = l := by
  constructor
  · rintro rfl
    exact ⟨Laws.SlotValue.hi_bytes h l hh hl, Laws.SlotValue.lo_bytes h l hl⟩
  · rintro ⟨rfl, rfl⟩
    exact (bytes_hi_lo w).symm

/-- A check word matches by its tag and its CRC (R28). -/
theorem eq_checkWord_iff (tag : BitVec 8) (ws : List Word) (w : Word) :
    w = checkWord tag.toNat ws ↔ hi w = tag.toNat ∧ lo w = crcWords ws :=
  eq_bytes_iff tag.isLt (crcWords_lt ws)

/-! ## Link frames -/

theorem frameCrc_toNat (code : Byte) (d : Option Byte) :
    (frameCrc code d).toNat = crc8 (code.toNat :: (d.map (·.toNat)).toList) :=
  Nat.mod_eq_of_lt (crc8_lt _)

/-- Settles O59: the register is followed shift by shift and byte by byte, and as it keeps to 8 bits it is the low byte of a
check word and the CHECK field of a frame as it stands. -/
theorem crcProcedure : Obligations.CrcProcedure := by
  unfold Obligations.CrcProcedure
  refine ⟨rfl, fun l b => ?_, crcShift_toNat, crcWords_eq_crc8, eq_checkWord_iff, fun code d => ?_, by decide⟩
  · exact (crc8_concat l b).trans (crcByte_eq_iterate _ b)
  · rw [frameCrc_toNat]
    cases d <;> rfl

end Sys2Proof.Machine
